-- ==== Sys2Proof/Word.lean ====
section
/-! DEFINITION. The widths of the machine's data: bytes, words, register numbers (00_scope.md R12). -/

namespace Sys2Proof

/-- A byte of memory (R12). -/
abbrev Byte := BitVec 8

/-- A 32-bit word: general registers, pc, addresses, control and status registers (R8, R12). -/
abbrev Word := BitVec 32

/-- A 64-bit datum: a floating-point register, the Stable Counter, an access of at most eight bytes (R41, R55). -/
abbrev DWord := BitVec 64

/-- The number of a general register, r0 to r31 (R30). -/
abbrev Reg := BitVec 5

/-- The number of a floating-point register, f0 to f31 (R41). -/
abbrev FReg := BitVec 5

/-- The number of a condition flag register, fcc0 to fcc7 (R45). -/
abbrev CFlag := BitVec 3

end Sys2Proof
end

