-- ==== Sys2Proof/Config.lean ====
section
/-! DEFINITION. What an implementation fixes (00_scope.md R9, 92_eei_decisions.md) and the free values: constants with
no body, so that nothing can be proved of which value they give. -/

namespace Sys2Proof.Config

/-- Which floating-point instructions exist (R9 `FP_LEVEL`, D5). -/
inductive FpLevel where
  | none    -- no floating-point instruction
  | single  -- single precision and word integers only
  | full    -- all of the manual's chapter 3
deriving DecidableEq, Repr

/-- What SC.W compares with the address LL.W recorded (R336, D6 `SC_ADDR_CHECK`). A line is one of the data cache (log 66). -/
inductive ScAddrCheck where
  | unchecked
  | sameWord
  | sameLine
deriving DecidableEq, Repr

/-- What the platform has behind a physical address (R143, D24 `PlatformMap`). -/
inductive RegionKind where
  | ram
  | rom
  | device
  | nothing
deriving DecidableEq, Repr

/-- One range of the platform's physical map: `size` bytes from `base`, both multiples of 8 so that no aligned access
crosses its edge. -/
structure Region where
  base : Nat
  size : Nat
  kind : RegionKind
deriving DecidableEq, Repr

/-- A cache as CACOP's direct index sees it (R486): `2 ^ way` ways of `2 ^ index` lines of `2 ^ offset` bytes. -/
structure CacheGeometry where
  way : Nat
  index : Nat
  offset : Nat
deriving DecidableEq, Repr

/-- The parameters the manual leaves to the implementation (R9). -/
structure Params where
  /-- `PALEN`, 1 to 36 (U1). -/
  palen : Nat
  /-- `FP_LEVEL` (U36). -/
  fpLevel : FpLevel
  /-- `TLB_ENTRIES`, the length of the state's TLB, at most 2 to the `TLBIDX_N` (U2). -/
  tlbEntries : Nat
  /-- `TLBIDX_N`, the width of TLBIDX.Index, at most 16 (R90). -/
  tlbidxN : Nat
  /-- `TIMER_N`, the timer's width, at most 32 (R101). The source gives no lower bound and the model sets none. -/
  timerN : Nat
  /-- `COUNTER_HZ`, the frequency of the Stable Counter and the timer. No rule depends on it (R586, D27). -/
  counterHz : Nat
  /-- `CORE_ID` (R78). -/
  coreId : BitVec 9
  /-- `DMW_COUNT`, the implemented direct-mapped windows, at most 2. DESIGN CHOICE, unsafe (log 65): where it is 1 the one
  window is DMW0; the spec does not say which. -/
  dmwCount : Nat
  /-- The level-1 instruction cache. The model reads only its line size: which older words CACOP 0x10 reaches (R185). -/
  icache : CacheGeometry
  /-- The level-1 data cache. The model reads only its line size: which older words CACOP 0x11 reaches (R185), and, DESIGN
  CHOICE (log 66), what `ScAddrCheck.sameLine` calls a line. -/
  dcache : CacheGeometry
  /-- The level-2 cache. Nothing in the model reads it (D23). -/
  l2cache : CacheGeometry
  /-- `TLB reset`: whether reset empties the TLB (R611, U6). -/
  tlbReset : Bool
  /-- `cache reset`: whether reset initialises the caches. Caches are no state of the model, so nothing reads it (R611, D23). -/
  cacheReset : Bool
  /-- CSR numbers defined by the architecture that this implementation lacks (R68). -/
  absentCsrs : List (BitVec 14)
  /-- `SC_LLBIT_AFTER`: whether SC.W clears LLbit (D6). -/
  scClearsLLbit : Bool
  /-- `SC_ADDR_CHECK` (D6). -/
  scAddrCheck : ScAddrCheck
  /-- `FRSQRT_SINGLE_ROUNDING` (D40). -/
  frsqrtSingleRounding : Bool
  /-- `PlatformMap`; the first range that holds an address decides, and an address in none is `nothing`. -/
  regions : List Region
deriving DecidableEq, Repr

/-- The parameters stay in the ranges R9 and U2 state; the edges of the platform's ranges are log 9's. -/
def Params.wf (p : Params) : Bool :=
  decide (1 ≤ p.palen ∧ p.palen ≤ 36 ∧ p.tlbidxN ≤ 16 ∧ p.tlbEntries ≤ 2 ^ p.tlbidxN ∧ p.timerN ≤ 32 ∧ p.dmwCount ≤ 2) &&
  p.regions.all fun r => decide (r.base % 8 = 0 ∧ r.size % 8 = 0)

/-- The implementation that `State.reset` describes. DESIGN CHOICE, unsafe (log 7): the manual recommends PALEN = 32
and leaves the rest open. -/
def Params.standard : Params where
  palen := 32
  fpLevel := .full
  tlbEntries := 32
  tlbidxN := 5
  timerN := 32
  counterHz := 100000000
  coreId := 0
  dmwCount := 2
  icache := ⟨2, 8, 6⟩
  dcache := ⟨2, 8, 6⟩
  l2cache := ⟨3, 11, 6⟩
  tlbReset := true
  cacheReset := true
  absentCsrs := []
  scClearsLLbit := true
  scAddrCheck := .unchecked
  frsqrtSingleRounding := false
  regions := [{ base := 0, size := 0x1000000000, kind := .ram }]

/-- An undefined 32-bit result: division by zero (R281), fcsr4 to fcsr31 (R447, R448), TVAL while the timer is
stopped (R581). Applied to the state's draw counter. -/
opaque freeWord : Nat → BitVec 32

/-- Bits 63:32 of a floating-point register after a single or word result (R42). -/
opaque freeUpper : Nat → BitVec 32

/-- The bits of a TLB entry that translation ignores, as TLBRD returns them (R495): nine of VPPN, nine of each PPN. -/
opaque freeTlbBits : Nat → BitVec 27

/-- The entry TLBFILL picks, before reduction to the number of entries (R493). -/
opaque freeTlbIndex : Nat → Nat

/-- Which of +0 and -0 (or of two numbers of equal magnitude) FMAX, FMIN, FMAXA and FMINA return (R391, R395). -/
opaque freeChoice : Nat → Bool

/-- Whether the fused operations raise V for zero times infinity plus a quiet NaN (R371). -/
opaque freeInvalid : Nat → Bool

/-- What a device answers to a load (R143). -/
opaque deviceData : Nat → BitVec 64

/-- What a device answers to an instruction fetch (R143). -/
opaque deviceFetch : Nat → BitVec 32

/-- `FTINT_INVALID_RESULT` for a single operand and a rounding mode, V not trapped (R435, D19). -/
opaque ftintInvalidS : BitVec 32 → BitVec 2 → BitVec 32

/-- `FTINT_INVALID_RESULT` for a double operand and a rounding mode, V not trapped (R435, D19). -/
opaque ftintInvalidD : BitVec 64 → BitVec 2 → BitVec 32

end Sys2Proof.Config
end

