-- ==== Sys2Proof/Machine/State.lean ====
section
/-! DEFINITION. The machine's state as plain data (10_state.md), the reasons a step can stop, and the state after reset
(10_state.md R110, 70_reset_and_hazards.md R600, R601). -/

namespace Sys2Proof.Machine

/-- The exceptions of 60_exceptions.md R530. -/
inductive Exc where
  | INT   -- interrupt
  | PIL   -- page invalid, load
  | PIS   -- page invalid, store
  | PIF   -- page invalid, fetch
  | PME   -- page modified
  | PPI   -- page privilege illegal
  | ADEF  -- address error, fetch
  | ADEM  -- address error, memory access: defined, raised by nothing (R556)
  | ALE   -- address not aligned
  | SYS   -- system call
  | BRK   -- breakpoint
  | INE   -- instruction does not exist
  | IPE   -- instruction privilege error
  | FPD   -- floating point disabled
  | FPE   -- floating-point exception
  | TLBR  -- TLB refill
deriving DecidableEq, Repr

/-- How the machine stops with a fault: in no way. Every fault of the spec is an exception, whose entry is modelled, and every
behaviour it gives no effect is refused. So there is nothing here to raise, and nothing unsafe. -/
inductive Fault where
deriving DecidableEq, Repr

/-- Why a step has no meaning. Each constructor but the first stands for a behaviour the spec calls undetermined and gives
no effect; each is safe, for the hardware does something there of which nothing can be proved. -/
inductive Refusal where
  /-- The meaning of an instruction is missing. Raised by no arm of this model. Safe. -/
  | notModelled (mnemonic : String)
  /-- CRMD.PLV is 1 or 2 (60_exceptions.md R523, U4). Raised by the step. Safe. -/
  | illegalPrivilegeLevel
  /-- CRMD.DA = CRMD.PG (20_memory.md R147, U3). Raised by the step and by any translation. Safe. -/
  | illegalTranslationMode
  /-- An access of memory access type 2 or 3 (20_memory.md R139, U19). Raised by fetch, load, store, Hit-class CACOP. Safe. -/
  | reservedAccessType
  /-- Both direct-mapped windows hit with different results (20_memory.md R157, U45). Raised by any translation. Safe. -/
  | conflictingWindows
  /-- Two TLB entries match one lookup (20_memory.md R163, U14). Raised by any translation and by TLBSRCH. Safe. -/
  | multipleTlbHit
  /-- LL.W or SC.W on an address that is not coherent cached (42_memory_access.md R338, U15). Safe. -/
  | uncachedReservation
  /-- TLBRD or TLBWR with TLBIDX.Index outside the TLB (46_privileged.md R497, U25). Safe. -/
  | tlbIndexOutOfRange
  /-- TLBWR or TLBFILL of a non-empty entry whose page size is not 12 or 21 (46_privileged.md R495, U7). Safe. -/
  | unsupportedPageSize
  /-- INVTLB op 4, 5 or 6 with a bit of x[rj] above bit 9 set (46_privileged.md R494, U24). Safe. -/
  | invtlbOperandBits
  /-- CACOP with a code the manual gives no function (46_privileged.md R486, U23). Safe. -/
  | cacopUnnamedCode
  /-- An RDTIME word that is none of the three LA32R uses (43_misc.md R356, U38). Raised by the fetch. Safe. -/
  | rdtimeForm
  /-- A store to a physical address the platform map calls ROM (20_memory.md R143, U42). Safe. -/
  | storeToRom (pa : Nat)
  /-- An access to a physical address where the platform map has nothing (20_memory.md R143, D24, U42: the manual defines no bus
  error). Raised by fetch, load and store. Safe. -/
  | nothingAtAddress (pa : Nat)
deriving DecidableEq, Repr

/-- One page of a TLB entry's pair (R57). PPN is held in 24 bits, the most PALEN allows. -/
structure TlbPage where
  v : Bool
  d : Bool
  plv : BitVec 2
  mat : BitVec 2
  ppn : BitVec 24
deriving DecidableEq, Repr

/-- A TLB entry (R57): the compare part, the even page and the odd page. -/
structure TlbEntry where
  e : Bool
  asid : BitVec 10
  g : Bool
  ps : BitVec 6
  /-- Virtual address bits 31:13. -/
  vppn : BitVec 19
  page0 : TlbPage
  page1 : TlbPage
deriving DecidableEq, Repr

/-- A page with every field zero. -/
def TlbPage.zero : TlbPage := ⟨false, false, 0, 0, 0⟩

/-- An empty entry with every field zero. -/
def TlbEntry.zero : TlbEntry := ⟨false, 0, false, 0, 0, .zero, .zero⟩

/-- The control and status registers that have storage (R66). Bits with no storage of their own (CPUID, PGD, TVAL, TICLR,
ASID.ASIDBITS, LLBCTL.ROLLB and WCLLB) are composed on a read; CTAG is not implemented (R104). -/
structure Csr where
  crmd : Word
  prmd : Word
  euen : Word
  ecfg : Word
  /-- Whole: IS in bits 12:0, Ecode in 21:16, EsubCode in 30:22 (R74). -/
  estat : Word
  era : Word
  badv : Word
  eentry : Word
  tlbidx : Word
  tlbehi : Word
  tlbelo0 : Word
  tlbelo1 : Word
  asid : Word
  pgdl : Word
  pgdh : Word
  save0 : Word
  save1 : Word
  save2 : Word
  save3 : Word
  tid : Word
  tcfg : Word
  /-- Only KLO (bit 2) is stored (R80). -/
  llbctl : Word
  tlbrentry : Word
  dmw0 : Word
  dmw1 : Word
deriving DecidableEq, Repr

/-- Physical memory: the bytes that differ from what an unlisted address reads as, in rising order of address. -/
abbrev Memory := List Host.Cell

/-- How far software has come in making a stored instruction word visible to the fetch (R185). -/
inductive SyncStage where
  | stored       -- written through the data cache
  | writtenBack  -- after CACOP 0x11 on its line
  | invalidated  -- after CACOP 0x10 on its line, never cached, or of a word another agent stored to (R186): IBAR ends it
deriving DecidableEq, Repr

/-- An older value of an aligned word that a fetch may still see (R185, R622). -/
structure StaleWord where
  addr : Nat
  word : Word
  stage : SyncStage
deriving DecidableEq, Repr

/-- A device access, in program order (R140, R143). -/
structure IoEvent where
  write : Bool
  addr : Nat
  bytes : Nat
  value : DWord
deriving DecidableEq, Repr

/-- How much one store of another agent covers: what R138 promises to be performed at once. -/
inductive StoreSize where
  | byte
  | halfword
  | word
deriving DecidableEq, Repr

/-- One store by another core or a coherent master, naturally aligned: it covers the datum of its size that holds the byte at
`addr`. A wider or unaligned store is several of these, in any order (R138, D7). -/
structure AgentStore where
  addr : Nat
  size : StoreSize
  value : Word
deriving DecidableEq, Repr

/-- What the outside world does before one step (R58, R337, R572, R582). The model's own, log 10. -/
structure StepInput where
  /-- Ticks of the constant-frequency clock since the last step. -/
  ticks : Nat
  /-- Levels of HWI7 to HWI0. -/
  hwi : BitVec 8
  /-- Level of the inter-processor interrupt line. -/
  ipi : Bool
  /-- A pending interrupt is not taken at this boundary (R572). -/
  deferInterrupt : Bool
  /-- Which word a fetch sees: 0 the current one, k the k-th stale one (R185). -/
  staleChoice : Nat
  /-- What other cores and coherent masters store, one after another (R337, R590). -/
  agentStores : List AgentStore
  /-- LLbit is lost for a reason outside this core (R337). -/
  loseReservation : Bool
deriving DecidableEq, Repr

/-- The machine. The last three fields and `cfg` are the model's own. -/
structure State where
  /-- The implementation's parameters; no step changes them (log 8). -/
  cfg : Config.Params
  /-- General registers (R30). -/
  gpr : Vector Word 32
  /-- Program counter (R35). -/
  pc : Word
  /-- Floating-point registers (R41). -/
  fpr : Vector DWord 32
  /-- Condition flag registers (R45). -/
  cf : Vector Bool 8
  /-- Floating-point control and status register (R47). -/
  fcsr0 : Word
  /-- Control and status registers (R66). -/
  csr : Csr
  /-- LLbit (R54). -/
  llbit : Bool
  /-- The physical address LL.W recorded (R54, R335). -/
  lladdr : Nat
  /-- Stable Counter (R55). -/
  counter : DWord
  /-- Timer value (R56, R580). -/
  timerVal : Word
  /-- Whether the timer counts (R580). -/
  timerRun : Bool
  /-- Waiting after IDLE (R60). -/
  waiting : Bool
  /-- TLB entries by index; their number is `TLB_ENTRIES` (R57). -/
  tlb : List TlbEntry
  /-- Physical memory (R130). -/
  mem : Memory
  /-- Older words a fetch may still see, the latest first (R185). -/
  stale : List StaleWord
  /-- Device accesses performed, the latest first (R140). -/
  io : List IoEvent
  /-- What every free value is applied to; each step begins by adding one. -/
  draws : Nat
  /-- What the outside world does at each coming step. -/
  inputs : List StepInput
deriving DecidableEq, Repr

/-- What R110 and R601 define after reset, over a state `u` that supplies everything they leave unspecified; where the
implementation resets its TLB no entry is in use (R611). -/
def State.resetFrom (u : State) : State :=
  { u with
    pc := 0x1C000000
    gpr := u.gpr.set 0 0
    csr := { u.csr with
      crmd := 0x00000008
      prmd := u.csr.prmd &&& 0x00000007
      euen := 0
      ecfg := 0
      estat := u.csr.estat &&& 0x7FFF1BFC
      eentry := u.csr.eentry &&& 0xFFFFFFC0
      tlbidx := u.csr.tlbidx &&& (0x3F000000 ||| 0x80000000 ||| BitVec.ofNat 32 (2 ^ u.cfg.tlbidxN - 1))
      tlbehi := u.csr.tlbehi &&& 0xFFFFE000
      tlbelo0 := u.csr.tlbelo0 &&& (0x0000007F ||| (0xFFFFFF00 &&& BitVec.ofNat 32 (2 ^ (u.cfg.palen - 4) - 1)))
      tlbelo1 := u.csr.tlbelo1 &&& (0x0000007F ||| (0xFFFFFF00 &&& BitVec.ofNat 32 (2 ^ (u.cfg.palen - 4) - 1)))
      asid := u.csr.asid &&& 0x000003FF
      pgdl := u.csr.pgdl &&& 0xFFFFF000
      pgdh := u.csr.pgdh &&& 0xFFFFF000
      tcfg := u.csr.tcfg &&& BitVec.ofNat 32 (2 ^ u.cfg.timerN - 1) &&& 0xFFFFFFFE
      llbctl := 0
      tlbrentry := u.csr.tlbrentry &&& 0xFFFFFFC0
      dmw0 := u.csr.dmw0 &&& 0xEE000030
      dmw1 := u.csr.dmw1 &&& 0xEE000030 }
    tlb := if u.cfg.tlbReset then u.tlb.map fun e => { e with e := false } else u.tlb
    fcsr0 := u.fcsr0 &&& 0x1F1F031F
    counter := 0
    waiting := false }

/-- Every field zero: what `State.reset` takes for the state R110 leaves unspecified. DESIGN CHOICE, unsafe (log 1 to 7, 58). -/
def State.zero : State where
  cfg := Config.Params.standard
  gpr := Vector.replicate 32 0
  pc := 0
  fpr := Vector.replicate 32 0
  cf := Vector.replicate 8 false
  fcsr0 := 0
  csr := ⟨0, 0, 0, 0, 0, 0, 0, 0, 0, 0, 0, 0, 0, 0, 0, 0, 0, 0, 0, 0, 0, 0, 0, 0, 0⟩
  llbit := false
  lladdr := 0
  counter := 0
  timerVal := 0
  timerRun := false
  waiting := false
  tlb := List.replicate Config.Params.standard.tlbEntries TlbEntry.zero
  mem := []
  stale := []
  io := []
  draws := 0
  inputs := []

/-- The machine right after reset. -/
def State.reset : State := State.resetFrom State.zero

end Sys2Proof.Machine
end

