-- ==== Sys2Proof/Machine/Ops.lean ====
section
/-! DEFINITION. The named operations over registers and memory, taking an exception (60_exceptions.md R540) and returning
from one (46_privileged.md R498). -/

namespace Sys2Proof.Machine

/-- What an instruction's meaning answers. -/
abbrev Result := Host.Outcome State Fault Refusal

/-! Bit fields. -/

/-- `r` with the bits under `mask` taken from `v` (R69). -/
def setBits (r mask v : Word) : Word := (r &&& ~~~mask) ||| (v &&& mask)

/-- Bits `n - 1` to 0 set. -/
def lowMask (n : Nat) : Word := BitVec.ofNat 32 (2 ^ n - 1)

/-! General registers (R30, R31): r0 reads 0 and discards what is written to it. -/

/-- Read general register `r`. -/
def gprGet (r : Reg) (s : State) : Word := if r = 0 then 0 else s.gpr[r.toNat]'(r.isLt)

/-- Write general register `r`. -/
def gprSet (r : Reg) (v : Word) (s : State) : State :=
  { s with gpr := if r = 0 then s.gpr else s.gpr.set r.toNat v r.isLt }

/-! Floating-point registers (R41, R42) and condition flags (R45). -/

/-- All 64 bits of a floating-point register. -/
def fprGet (r : FReg) (s : State) : DWord := s.fpr[r.toNat]'(r.isLt)

/-- Write all 64 bits of a floating-point register. -/
def fprSet (r : FReg) (v : DWord) (s : State) : State := { s with fpr := s.fpr.set r.toNat v r.isLt }

/-- The single or word a floating-point register holds: bits 31:0 (R42). -/
def fprGetW (r : FReg) (s : State) : Word := (fprGet r s).setWidth 32

/-- Write a single or word: bits 31:0 hold it, bits 63:32 become a free value (R42, D16; log 25). -/
def fprSetW (r : FReg) (v : Word) (s : State) : State := fprSet r (Config.freeUpper s.draws ++ v) s

/-- Read condition flag `c`. -/
def cfGet (c : CFlag) (s : State) : Bool := s.cf[c.toNat]'(c.isLt)

/-- Write condition flag `c`. -/
def cfSet (c : CFlag) (b : Bool) (s : State) : State := { s with cf := s.cf.set c.toNat b c.isLt }

/-! Program counter. -/

/-- The instruction after this one is next (R36); the sum wraps (R38, D1; log 13). -/
def advance (s : State) : State := { s with pc := s.pc + 4 }

/-- The instruction at `t` is next. -/
def jumpTo (t : Word) (s : State) : State := { s with pc := t }

/-! Fields of the control and status registers. -/

/-- CRMD.PLV, the privilege level (R61, R71). -/
def plv (s : State) : BitVec 2 := s.csr.crmd.extractLsb' 0 2
/-- CRMD.IE (R71). -/
def interruptsOn (s : State) : Bool := s.csr.crmd.getLsbD 2
/-- CRMD.DA (R71). -/
def directBit (s : State) : Bool := s.csr.crmd.getLsbD 3
/-- CRMD.PG (R71). -/
def pagingBit (s : State) : Bool := s.csr.crmd.getLsbD 4
/-- CRMD.DATF (R71). -/
def directFetchType (s : State) : BitVec 2 := s.csr.crmd.extractLsb' 5 2
/-- CRMD.DATM (R71). -/
def directDataType (s : State) : BitVec 2 := s.csr.crmd.extractLsb' 7 2
/-- EUEN.FPE (R81). -/
def floatEnabled (s : State) : Bool := s.csr.euen.getLsbD 0
/-- ESTAT.Ecode (R74). -/
def lastEcode (s : State) : BitVec 6 := s.csr.estat.extractLsb' 16 6
/-- ASID.ASID (R94). -/
def currentAsid (s : State) : BitVec 10 := s.csr.asid.extractLsb' 0 10
/-- `int_vec`: the pending sources that are locally enabled (R572). -/
def pendingVector (s : State) : BitVec 13 := (s.csr.estat &&& s.csr.ecfg).setWidth 13

/-! Physical memory (R130, R132). -/

/-- What an address no list entry names reads as. DESIGN CHOICE, unsafe (log 6): the spec gives memory no reset contents. -/
def Memory.unlisted : Byte := 0

/-- The byte at an address. -/
def Memory.byte : Memory → Nat → Byte
  | [], _ => Memory.unlisted
  | (x, v) :: m, a => if a = x then v else Memory.byte m a

/-- Store a byte, keeping the canonical form. -/
def Memory.put : Memory → Nat → Byte → Memory
  | [], a, b => if b = Memory.unlisted then [] else [(a, b)]
  | (x, v) :: m, a, b =>
    if a < x then (if b = Memory.unlisted then (x, v) :: m else (a, b) :: (x, v) :: m)
    else if a = x then (if b = Memory.unlisted then m else (a, b) :: m)
    else (x, v) :: Memory.put m a b

/-- The canonical form: addresses strictly rise, and no entry says what an unlisted address reads as. -/
abbrev Memory.wf (m : Memory) : Prop :=
  m.Pairwise (fun c d => c.1 < d.1) ∧ ∀ c ∈ m, c.2 ≠ Memory.unlisted

/-- `MemRead(a, n)` of R132, in the low `8 n` bits: the byte at the lowest address is bits 7:0. -/
def Memory.read (m : Memory) (a : Nat) : Nat → DWord
  | 0 => 0
  | n + 1 => Memory.read m (a + 1) n <<< 8 ||| (m.byte a).setWidth 64

/-- `MemWrite(a, n, v)` of R132: byte i of `v` goes to address `a + i`. -/
def Memory.write (m : Memory) (a : Nat) (v : DWord) : Nat → Memory
  | 0 => m
  | n + 1 => Memory.write (m.put a (v.setWidth 8)) (a + 1) (v >>> 8) n

/-- The aligned word at an address. -/
def Memory.word (m : Memory) (a : Nat) : Word := (m.read a 4).setWidth 32

/-- What the platform has at a physical address (R143). -/
def regionKind (pa : Nat) (s : State) : Config.RegionKind :=
  match s.cfg.regions.find? (fun r => decide (r.base ≤ pa ∧ pa < r.base + r.size)) with
  | some r => r.kind
  | none => .nothing

/-! Exceptions (R530, R540). -/

/-- Ecode of R530. -/
def Exc.ecode : Exc → BitVec 6
  | .INT => 0x0
  | .PIL => 0x1
  | .PIS => 0x2
  | .PIF => 0x3
  | .PME => 0x4
  | .PPI => 0x7
  | .ADEF => 0x8
  | .ADEM => 0x8
  | .ALE => 0x9
  | .SYS => 0xB
  | .BRK => 0xC
  | .INE => 0xD
  | .IPE => 0xE
  | .FPD => 0xF
  | .FPE => 0x12
  | .TLBR => 0x3F

/-- EsubCode of R530: 1 for ADEM only. -/
def Exc.esubcode : Exc → BitVec 9
  | .ADEM => 1
  | _ => 0

/-- The exceptions that record the faulting address in TLBEHI.VPPN (R92, R540). -/
def Exc.recordsVppn : Exc → Bool
  | .TLBR | .PIL | .PIS | .PIF | .PME | .PPI => true
  | _ => false

/-- The exceptions that record the faulting address in BADV (R76, R540). -/
def Exc.recordsBadv (x : Exc) : Bool := x.recordsVppn || x == .ADEF || x == .ALE

/-- Where an exception's handler starts: TLBRENTRY for a TLB refill, EENTRY for all others, bits 5:0 zero (R542). -/
def entryAddress (x : Exc) (s : State) : Word :=
  (if x = .TLBR then s.csr.tlbrentry else s.csr.eentry) &&& 0xFFFFFFC0

/-- CRMD after entry: PLV = 0 and IE = 0; a TLB refill also sets DA = 1 and PG = 0 (R540, R541). -/
def entryMode (x : Exc) (crmd : Word) : Word :=
  if x = .TLBR then setBits crmd 0x1F 0x08 else setBits crmd 0x07 0

/-- ESTAT after entry: Ecode and EsubCode written, IS kept (R540, R569). -/
def entryStatus (x : Exc) (estat : Word) : Word :=
  setBits estat 0x7FFF0000 ((0 : BitVec 1) ++ x.esubcode ++ x.ecode ++ (0 : BitVec 16))

/-- Taking exception `x` at the instruction at pc, `va` the faulting address (R540): `Enter(x, pc, va)`. -/
def enter (x : Exc) (va : Word) (s : State) : State :=
  { s with
    pc := entryAddress x s
    csr := { s.csr with
      prmd := setBits s.csr.prmd 0x07 s.csr.crmd
      crmd := entryMode x s.csr.crmd
      era := s.pc
      estat := entryStatus x s.csr.estat
      badv := if x.recordsBadv then va else s.csr.badv
      tlbehi := if x.recordsVppn then setBits s.csr.tlbehi 0xFFFFE000 va else s.csr.tlbehi } }

/-- CRMD after ERTN: PLV and IE from PRMD; from a TLB refill also DA = 0 and PG = 1 (R498). -/
def returnMode (s : State) : Word :=
  let restored := setBits s.csr.crmd 0x07 s.csr.prmd
  if lastEcode s = 0x3F then setBits restored 0x18 0x10 else restored

/-- Returning from an exception (R498, R545): the mode, LLbit cleared unless KLO is 1, KLO cleared, pc from ERA. -/
def exceptionReturn (s : State) : State :=
  { s with
    pc := s.csr.era
    llbit := s.llbit && s.csr.llbctl.getLsbD 2
    csr := { s.csr with
      crmd := returnMode s
      llbctl := setBits s.csr.llbctl 0x04 0 } }

/-- Take an exception that records no address. -/
def trap (x : Exc) (s : State) : Result := .next (enter x 0 s)

/-! Accesses that may stop. -/

/-- What a part of an instruction that may raise an exception answers: a value, an exception with its address, or a stop. -/
inductive Access (α : Type) where
  | ok (a : α)
  | raise (x : Exc) (va : Word)
  | refuse (r : Refusal)
deriving DecidableEq, Repr

/-- Go on with the value; an exception or stop stays. -/
def Access.bind {α β : Type} (c : Access α) (k : α → Access β) : Access β :=
  match c with
  | .ok a => k a
  | .raise x va => .raise x va
  | .refuse r => .refuse r

/-- Go on with the value; an exception is taken, a stop ends the step (R320 (6): nothing later happens). -/
def Access.finish {α : Type} (c : Access α) (s : State) (k : α → Result) : Result :=
  match c with
  | .ok a => k a
  | .raise x va => .next (enter x va s)
  | .refuse r => .refused r

/-! Checks made before an instruction's own effect. -/

/-- A privileged instruction away from PLV0 raises IPE (R480, R567). -/
def privileged (s : State) (k : Result) : Result := if plv s = 0 then k else trap .IPE s

/-- A floating-point instruction: INE where the implementation lacks it, then FPD where EUEN.FPE = 0 (R361, R552, R565, R566).
`double` says whether the instruction needs more than single precision and words (D5). -/
def floating (double : Bool) (s : State) (k : Result) : Result :=
  if s.cfg.fpLevel = .none ∨ (s.cfg.fpLevel = .single ∧ double) then trap .INE s
  else if floatEnabled s then k
  else trap .FPD s

end Sys2Proof.Machine
end

