-- ==== Sys2Proof/Machine/Operands.lean ====
section
/-! DEFINITION. Every operand form: immediates, effective addresses, branch targets (30_encoding.md R205 to R215). -/

namespace Sys2Proof.Machine

/-- si12, sign-extended (R205). -/
def simm12 (i : BitVec 12) : Word := i.signExtend 32

/-- ui12, zero-extended (R206). -/
def uimm12 (i : BitVec 12) : Word := i.setWidth 32

/-- si20 in bits 31:12 over twelve zeros (R207). -/
def upper20 (i : BitVec 20) : Word := i ++ (0 : BitVec 12)

/-- si14 over two zeros, sign-extended (R208). -/
def simm14 (i : BitVec 14) : Word := (i ++ (0 : BitVec 2)).signExtend 32

/-- offs16 over two zeros, sign-extended (R209). -/
def offset16 (i : BitVec 16) : Word := (i ++ (0 : BitVec 2)).signExtend 32

/-- offs21 over two zeros, sign-extended (R210). -/
def offset21 (i : BitVec 21) : Word := (i ++ (0 : BitVec 2)).signExtend 32

/-- offs26 over two zeros, sign-extended (R211). -/
def offset26 (i : BitVec 26) : Word := (i ++ (0 : BitVec 2)).signExtend 32

/-- The effective address of the 2RI12 accesses: base plus si12, modulo 2^32 (R320, R150). -/
def address12 (rj : Reg) (i : BitVec 12) (s : State) : Word := gprGet rj s + simm12 i

/-- The effective address of LL.W and SC.W (R335). -/
def address14 (rj : Reg) (i : BitVec 14) (s : State) : Word := gprGet rj s + simm14 i

/-- A shift amount held in a register: its low five bits (R275). -/
def shiftAmount (v : Word) : Nat := (v.setWidth 5).toNat

/-- A comparison's result as a word: 1 or 0 (R40). -/
def boolWord (b : Bool) : Word := if b then 1 else 0

end Sys2Proof.Machine
end

