-- ==== Sys2Proof/Machine/Branch.lean ====
section
/-! DEFINITION. Branches and jumps (41_branch.md R300 to R314). No delay slot (R621); sums wrap (R300, D1; log 13). -/

namespace Sys2Proof.Machine

/-- Go to pc plus an offset where the condition holds, else to the next instruction. -/
def branchIf (c : Bool) (offset : Word) (s : State) : Result :=
  .next (if c then jumpTo (s.pc + offset) s else advance s)

/-- BEQ (R301). -/
def execBeq (rj rd : Reg) (offs : BitVec 16) (s : State) : Result :=
  branchIf (gprGet rj s == gprGet rd s) (offset16 offs) s

/-- BNE (R302). -/
def execBne (rj rd : Reg) (offs : BitVec 16) (s : State) : Result :=
  branchIf (gprGet rj s != gprGet rd s) (offset16 offs) s

/-- BLT (R303). -/
def execBlt (rj rd : Reg) (offs : BitVec 16) (s : State) : Result :=
  branchIf ((gprGet rj s).slt (gprGet rd s)) (offset16 offs) s

/-- BGE (R304). -/
def execBge (rj rd : Reg) (offs : BitVec 16) (s : State) : Result :=
  branchIf (!(gprGet rj s).slt (gprGet rd s)) (offset16 offs) s

/-- BLTU (R305). -/
def execBltu (rj rd : Reg) (offs : BitVec 16) (s : State) : Result :=
  branchIf ((gprGet rj s).ult (gprGet rd s)) (offset16 offs) s

/-- BGEU (R306). -/
def execBgeu (rj rd : Reg) (offs : BitVec 16) (s : State) : Result :=
  branchIf (!(gprGet rj s).ult (gprGet rd s)) (offset16 offs) s

/-- B (R307). -/
def execB (offs : BitVec 26) (s : State) : Result :=
  .next (jumpTo (s.pc + offset26 offs) s)

/-- BL: the link goes to r1 (R308). -/
def execBl (offs : BitVec 26) (s : State) : Result :=
  .next (jumpTo (s.pc + offset26 offs) (gprSet 1 (s.pc + 4) s))

/-- JIRL: the target is read before the link is written (R311, D46; log 48). -/
def execJirl (rd rj : Reg) (offs : BitVec 16) (s : State) : Result :=
  .next (jumpTo (gprGet rj s + offset16 offs) (gprSet rd (s.pc + 4) s))

end Sys2Proof.Machine
end

