-- ==== Sys2Proof/Machine/FpArith.lean ====
section
/-! DEFINITION. Floating-point values and operations (10_state.md R50 to R52, 44_float_arith.md R364 to R372, R375 to R416,
45_float_conv_move.md R421 to R436): operands become exact integers times powers of two, the result is formed exactly and
rounded once. IEEE 754-2008 details the manual only refers to are PRESUMED (log 50). -/

namespace Sys2Proof.Machine

/-- A binary format by the widths of its exponent and fraction fields. -/
structure FpFormat where
  expBits : Nat
  fracBits : Nat
deriving DecidableEq, Repr

/-- Single precision (R50). -/
abbrev fp32 : FpFormat := ⟨8, 23⟩
/-- Double precision (R51). -/
abbrev fp64 : FpFormat := ⟨11, 52⟩

/-- Bits of a datum: sign, exponent, fraction. -/
abbrev FpFormat.width (f : FpFormat) : Nat := 1 + f.expBits + f.fracBits

/-- Significant bits: 24 or 53. -/
def FpFormat.precision (f : FpFormat) : Nat := f.fracBits + 1
/-- The greatest exponent of a finite number, which is also the bias. -/
def FpFormat.emax (f : FpFormat) : Int := 2 ^ (f.expBits - 1) - 1
/-- Emin of R368: -126 or -1022. -/
def FpFormat.emin (f : FpFormat) : Int := 1 - f.emax
/-- The exponent of the last place of a subnormal number. -/
def FpFormat.qmin (f : FpFormat) : Int := f.emin - f.fracBits

/-- The exponent field. -/
def expField {f : FpFormat} (v : BitVec f.width) : Nat := v.toNat / 2 ^ f.fracBits % 2 ^ f.expBits
/-- The fraction field. -/
def fracField {f : FpFormat} (v : BitVec f.width) : Nat := v.toNat % 2 ^ f.fracBits
/-- The sign bit. -/
def signBit {f : FpFormat} (v : BitVec f.width) : Bool := v.msb

/-- A datum from its sign and the value of its other bits. -/
def packFp (f : FpFormat) (neg : Bool) (magnitude : Nat) : BitVec f.width :=
  BitVec.ofNat f.width ((if neg then 2 ^ (f.expBits + f.fracBits) else 0) + magnitude)

/-- The other bits of an infinity: exponent field all ones, fraction 0. -/
def infMagnitude (f : FpFormat) : Nat := (2 ^ f.expBits - 1) * 2 ^ f.fracBits

/-- The infinity of a sign. -/
def fpInf (f : FpFormat) (neg : Bool) : BitVec f.width := packFp f neg (infMagnitude f)
/-- The zero of a sign. -/
def fpZero (f : FpFormat) (neg : Bool) : BitVec f.width := packFp f neg 0
/-- The finite number of greatest magnitude of a sign (R367). -/
def fpMaxFinite (f : FpFormat) (neg : Bool) : BitVec f.width := packFp f neg (infMagnitude f - 1)
/-- The default quiet NaN (R52, R365). -/
def defaultNan (f : FpFormat) : BitVec f.width := packFp f false (infMagnitude f + 2 ^ (f.fracBits - 1))
/-- One. -/
def fpOne (f : FpFormat) : BitVec f.width := packFp f false ((2 ^ (f.expBits - 1) - 1) * 2 ^ f.fracBits)

/-- A NaN: exponent field all ones, fraction not 0 (R50). -/
def isNan {f : FpFormat} (v : BitVec f.width) : Bool :=
  expField v == 2 ^ f.expBits - 1 && fracField v != 0
/-- A quiet NaN: the top fraction bit is 1 (R52). -/
def isQNan {f : FpFormat} (v : BitVec f.width) : Bool := isNan v && v.getLsbD (f.fracBits - 1)
/-- A signalling NaN: the top fraction bit is 0 (R52). -/
def isSNan {f : FpFormat} (v : BitVec f.width) : Bool := isNan v && !v.getLsbD (f.fracBits - 1)
/-- The top fraction bit set, the other bits kept (R365). -/
def quieted {f : FpFormat} (v : BitVec f.width) : BitVec f.width :=
  v ||| BitVec.ofNat f.width (2 ^ (f.fracBits - 1))
/-- The sign bit flipped (R404). -/
def negated {f : FpFormat} (v : BitVec f.width) : BitVec f.width :=
  v ^^^ BitVec.ofNat f.width (2 ^ (f.expBits + f.fracBits))
/-- The sign bit cleared (R402). -/
def magnitudeOf {f : FpFormat} (v : BitVec f.width) : BitVec f.width :=
  v &&& BitVec.ofNat f.width (2 ^ (f.expBits + f.fracBits) - 1)
/-- A NaN stays, any other value has its sign flipped (R365, D47; log 49). -/
def negatedNumber {f : FpFormat} (v : BitVec f.width) : BitVec f.width := if isNan v then v else negated v

/-- What a datum stands for (R50, R51): a finite one is `± mant * 2 ^ exp`. -/
inductive FpView where
  | nan
  | inf (neg : Bool)
  | fin (neg : Bool) (mant : Nat) (exp : Int)
deriving DecidableEq, Repr

/-- Read a datum. -/
def view {f : FpFormat} (v : BitVec f.width) : FpView :=
  if expField v = 2 ^ f.expBits - 1 then
    if fracField v = 0 then .inf (signBit v) else .nan
  else if expField v = 0 then .fin (signBit v) (fracField v) f.qmin
  else .fin (signBit v) (2 ^ f.fracBits + fracField v) (f.qmin + expField v - 1)

/-- Rounding modes in the encoding of fcsr0.RM (R47, R364). -/
inductive RoundingMode where
  | nearestEven
  | towardZero
  | towardPositive
  | towardNegative
deriving DecidableEq, Repr

/-- The rounding mode of a two-bit field. -/
def RoundingMode.ofBits (b : BitVec 2) : RoundingMode :=
  if b = 0 then .nearestEven else if b = 1 then .towardZero else if b = 2 then .towardPositive else .towardNegative

/-- What an operation needs besides its operands: the rounding mode, whether underflow traps (R368), and the free values. -/
structure FpEnv where
  rm : RoundingMode
  trapU : Bool
  /-- Which operand FMAX and its kind return when both compare equal and differ (R391). -/
  choice : Bool
  /-- Whether 0 times infinity plus a quiet NaN raises V (R371). -/
  invalid : Bool
deriving DecidableEq, Repr

/-- A result: the bits and the set of exceptions raised, V Z O U I from bit 4 to bit 0 (R360). -/
structure FpResult (w : Nat) where
  bits : BitVec w
  exc : BitVec 5
deriving DecidableEq, Repr

/-- Invalid operation. -/
abbrev excV : BitVec 5 := 0x10
/-- Division by zero. -/
abbrev excZ : BitVec 5 := 0x08
/-- Overflow. -/
abbrev excO : BitVec 5 := 0x04
/-- Underflow. -/
abbrev excU : BitVec 5 := 0x02
/-- Inexact. -/
abbrev excI : BitVec 5 := 0x01

/-! Rounding. -/

/-- `± m / 2 ^ sh` rounded to an integer magnitude in a mode. -/
def roundShift (rm : RoundingMode) (neg : Bool) (m sh : Nat) : Nat :=
  let n := m / 2 ^ sh
  let r := m % 2 ^ sh
  let up : Bool :=
    match rm with
    | .nearestEven => decide (2 ^ sh < 2 * r) || (decide (2 * r = 2 ^ sh) && decide (n % 2 = 1))
    | .towardZero => false
    | .towardPositive => !neg && decide (r ≠ 0)
    | .towardNegative => neg && decide (r ≠ 0)
  if up then n + 1 else n

/-- `± m * 2 ^ e` rounded to a multiple of `2 ^ q`: the multiplier. -/
def roundUnit (rm : RoundingMode) (neg : Bool) (m : Nat) (e q : Int) : Nat :=
  if q ≤ e then m * 2 ^ (e - q).toNat else roundShift rm neg m (q - e).toNat

/-- Whether `m * 2 ^ e` is no multiple of `2 ^ q`. -/
def inexactAt (m : Nat) (e q : Int) : Bool :=
  decide (e < q) && decide (m % 2 ^ (q - e).toNat ≠ 0)

/-- The result of an overflow (R367). -/
def overflowBits (f : FpFormat) (rm : RoundingMode) (neg : Bool) : BitVec f.width :=
  match rm with
  | .nearestEven => fpInf f neg
  | .towardZero => fpMaxFinite f neg
  | .towardPositive => if neg then fpMaxFinite f neg else fpInf f neg
  | .towardNegative => if neg then fpInf f neg else fpMaxFinite f neg

/-- The last place of `m * 2 ^ e` rounded to the format's precision with unbounded exponent. -/
def unboundedUnit (f : FpFormat) (m : Nat) (e : Int) : Int := e + (m.log2 + 1 : Nat) - f.precision

/-- The exponent of `± m * 2 ^ e` after rounding to the format's precision with unbounded exponent (R368, R369). -/
def unboundedExponent (f : FpFormat) (rm : RoundingMode) (neg : Bool) (m : Nat) (e : Int) : Int :=
  let q := unboundedUnit f m e
  if roundUnit rm neg m e q = 2 ^ f.precision then q + f.precision else q + f.precision - 1

/-- A nonzero exact value `± m * 2 ^ e` rounded to a format, with O, U and I (R364, R367 to R370). -/
def roundNonzero (f : FpFormat) (env : FpEnv) (neg : Bool) (m : Nat) (e : Int) : FpResult f.width :=
  let top := unboundedExponent f env.rm neg m e
  if f.emax < top then ⟨overflowBits f env.rm neg, excO ||| excI⟩
  else
    let q := max (unboundedUnit f m e) f.qmin
    let inexact := inexactAt m e q
    let tiny := decide (top < f.emin)
    ⟨packFp f neg ((q - f.qmin).toNat * 2 ^ f.fracBits + roundUnit env.rm neg m e q),
      (if tiny && (inexact || env.trapU) then excU else 0) ||| (if inexact then excI else 0)⟩

/-- As `roundNonzero`, an exact zero keeping its sign. -/
def roundFp (f : FpFormat) (env : FpEnv) (neg : Bool) (m : Nat) (e : Int) : FpResult f.width :=
  if m = 0 then ⟨fpZero f neg, 0⟩ else roundNonzero f env neg m e

/-! NaN operands (R365). -/

/-- The result when some operand is a NaN, the operands in order of priority: the first signalling NaN made quiet, with V;
else the first quiet NaN. -/
def propagated {f : FpFormat} (ops : List (BitVec f.width)) : Option (FpResult f.width) :=
  match ops.find? isSNan with
  | some v => some ⟨quieted v, excV⟩
  | none =>
    match ops.find? isNan with
    | some v => some ⟨v, 0⟩
    | none => none

/-- An invalid operation on numbers: the default quiet NaN, with V (R365 case 3, R371). -/
def invalidResult (f : FpFormat) : FpResult f.width := ⟨defaultNan f, excV⟩

/-! Arithmetic. -/

/-- `± m * 2 ^ e` as a multiple of `2 ^ q`, for q at most e. -/
def scaled (neg : Bool) (m : Nat) (e q : Int) : Int :=
  if neg then -(m * 2 ^ (e - q).toNat : Nat) else (m * 2 ^ (e - q).toNat : Nat)

/-- The exact sum of two finite values, rounded; an exact zero sum of unlike signs is -0 toward negative and +0 otherwise
(R375). -/
def sumFinite (f : FpFormat) (env : FpEnv) (n1 : Bool) (m1 : Nat) (e1 : Int) (n2 : Bool) (m2 : Nat) (e2 : Int) :
    FpResult f.width :=
  let q := min e1 e2
  let total := scaled n1 m1 e1 q + scaled n2 m2 e2 q
  if total = 0 then ⟨fpZero f (if n1 = n2 then n1 else decide (env.rm = .towardNegative)), 0⟩
  else roundNonzero f env (decide (total < 0)) total.natAbs q

/-- `addition` (R375). -/
def fpAdd (f : FpFormat) (env : FpEnv) (x y : BitVec f.width) : FpResult f.width :=
  match propagated [x, y] with
  | some r => r
  | none =>
    match view x, view y with
    | .inf a, .inf b => if a = b then ⟨fpInf f a, 0⟩ else invalidResult f
    | .inf a, _ => ⟨fpInf f a, 0⟩
    | _, .inf b => ⟨fpInf f b, 0⟩
    | .fin n1 m1 e1, .fin n2 m2 e2 => sumFinite f env n1 m1 e1 n2 m2 e2
    | _, _ => invalidResult f

/-- `subtraction` (R377): a NaN operand is delivered with its own sign. -/
def fpSub (f : FpFormat) (env : FpEnv) (x y : BitVec f.width) : FpResult f.width :=
  fpAdd f env x (negatedNumber y)

/-- `multiplication` (R379). -/
def fpMul (f : FpFormat) (env : FpEnv) (x y : BitVec f.width) : FpResult f.width :=
  match propagated [x, y] with
  | some r => r
  | none =>
    match view x, view y with
    | .inf a, .inf b => ⟨fpInf f (a ^^ b), 0⟩
    | .inf a, .fin n m _ => if m = 0 then invalidResult f else ⟨fpInf f (a ^^ n), 0⟩
    | .fin n m _, .inf b => if m = 0 then invalidResult f else ⟨fpInf f (n ^^ b), 0⟩
    | .fin n1 m1 e1, .fin n2 m2 e2 => roundFp f env (n1 ^^ n2) (m1 * m2) (e1 + e2)
    | _, _ => invalidResult f

/-- A quotient or root cut to an integer, with a last bit that says whether anything was cut off: enough to round by. -/
def withSticky (q : Nat) (cut : Bool) : Nat := 2 * q + (if cut then 1 else 0)

/-- The quotient of two finite nonzero values, rounded. -/
def quotientFinite (f : FpFormat) (env : FpEnv) (neg : Bool) (m1 : Nat) (e1 : Int) (m2 : Nat) (e2 : Int) :
    FpResult f.width :=
  let k := 2 * f.precision + 3
  let num := m1 * 2 ^ k
  roundNonzero f env neg (withSticky (num / m2) (decide (num % m2 ≠ 0))) (e1 - e2 - k - 1)

/-- `division` (R381, R372). -/
def fpDiv (f : FpFormat) (env : FpEnv) (x y : BitVec f.width) : FpResult f.width :=
  match propagated [x, y] with
  | some r => r
  | none =>
    match view x, view y with
    | .inf _, .inf _ => invalidResult f
    | .inf a, .fin n _ _ => ⟨fpInf f (a ^^ n), 0⟩
    | .fin n _ _, .inf b => ⟨fpZero f (n ^^ b), 0⟩
    | .fin n1 m1 e1, .fin n2 m2 e2 =>
      if m2 = 0 then (if m1 = 0 then invalidResult f else ⟨fpInf f (n1 ^^ n2), excZ⟩)
      else if m1 = 0 then ⟨fpZero f (n1 ^^ n2), 0⟩
      else quotientFinite f env (n1 ^^ n2) m1 e1 m2 e2
    | _, _ => invalidResult f

/-- `fusedMultiplyAdd(x, y, z)`: x times y plus z, rounded once; operand priority z, x, y (R365, R371, R383). -/
def fpFma (f : FpFormat) (env : FpEnv) (x y z : BitVec f.width) : FpResult f.width :=
  match propagated [z, x, y] with
  | some r =>
    match view x, view y with
    | .inf _, .fin _ 0 _ => ⟨r.bits, r.exc ||| (if env.invalid then excV else 0)⟩
    | .fin _ 0 _, .inf _ => ⟨r.bits, r.exc ||| (if env.invalid then excV else 0)⟩
    | _, _ => r
  | none =>
    match view x, view y, view z with
    | .inf a, .inf b, .inf c => if (a ^^ b) = c then ⟨fpInf f c, 0⟩ else invalidResult f
    | .inf a, .inf b, _ => ⟨fpInf f (a ^^ b), 0⟩
    | .inf a, .fin n m _, .inf c =>
      if m = 0 then invalidResult f else if (a ^^ n) = c then ⟨fpInf f c, 0⟩ else invalidResult f
    | .inf a, .fin n m _, _ => if m = 0 then invalidResult f else ⟨fpInf f (a ^^ n), 0⟩
    | .fin n m _, .inf b, .inf c =>
      if m = 0 then invalidResult f else if (n ^^ b) = c then ⟨fpInf f c, 0⟩ else invalidResult f
    | .fin n m _, .inf b, _ => if m = 0 then invalidResult f else ⟨fpInf f (n ^^ b), 0⟩
    | _, _, .inf c => ⟨fpInf f c, 0⟩
    | .fin n1 m1 e1, .fin n2 m2 e2, .fin n3 m3 e3 => sumFinite f env (n1 ^^ n2) (m1 * m2) (e1 + e2) n3 m3 e3
    | _, _, _ => invalidResult f

/-- `fj * fk - fa` (R385): the addend's sign is flipped, a NaN's is not. -/
def fpFms (f : FpFormat) (env : FpEnv) (x y z : BitVec f.width) : FpResult f.width :=
  fpFma f env x y (negatedNumber z)

/-- A result with its sign flipped after rounding, a NaN's kept (R387, R389). -/
def negatedResult {f : FpFormat} (r : FpResult f.width) : FpResult f.width := ⟨negatedNumber r.bits, r.exc⟩

/-- Integer square root, one bit of the root after another from bit `k - 1` down. -/
def isqrtFrom (n : Nat) : Nat → Nat → Nat
  | 0, r => r
  | k + 1, r => if (r + 2 ^ k) * (r + 2 ^ k) ≤ n then isqrtFrom n k (r + 2 ^ k) else isqrtFrom n k r

/-- The integer square root, rounded down. -/
def isqrt (n : Nat) : Nat := isqrtFrom n (n.log2 / 2 + 1) 0

/-- By how much a significand is shifted before its root is taken: enough bits, and an even exponent after it. -/
def sqrtShift (f : FpFormat) (e : Int) : Nat := 2 * (f.precision + 2) + (e % 2).toNat

/-- The square root of a finite positive value, rounded. -/
def sqrtFinite (f : FpFormat) (env : FpEnv) (m : Nat) (e : Int) : FpResult f.width :=
  let k := sqrtShift f e
  let n := m * 2 ^ k
  let r := isqrt n
  roundNonzero f env false (withSticky r (decide (r * r ≠ n))) ((e - k) / 2 - 1)

/-- `squareRoot` (R406). -/
def fpSqrt (f : FpFormat) (env : FpEnv) (x : BitVec f.width) : FpResult f.width :=
  match propagated [x] with
  | some r => r
  | none =>
    match view x with
    | .inf neg => if neg then invalidResult f else ⟨fpInf f false, 0⟩
    | .fin neg m e =>
      if m = 0 then ⟨fpZero f neg, 0⟩ else if neg then invalidResult f else sqrtFinite f env m e
    | .nan => invalidResult f

/-- FRECIP: one divided by the operand (R408). -/
def fpRecip (f : FpFormat) (env : FpEnv) (x : BitVec f.width) : FpResult f.width := fpDiv f env (fpOne f) x

/-- FRSQRT as the pseudocode composes it: two rounded operations, the exceptions of both (R410). -/
def fpRsqrtTwice (f : FpFormat) (env : FpEnv) (x : BitVec f.width) : FpResult f.width :=
  let t := fpSqrt f env x
  let r := fpDiv f env (fpOne f) t.bits
  ⟨r.bits, t.exc ||| r.exc⟩

/-- The reciprocal square root of a finite positive value, rounded once. -/
def rsqrtFinite (f : FpFormat) (env : FpEnv) (m : Nat) (e : Int) : FpResult f.width :=
  let s := (e % 2).toNat
  let d := m * 2 ^ s
  let k := 2 * f.precision + 3
  let r := isqrt (2 ^ (2 * k) / d)
  roundNonzero f env false (withSticky r (decide (r * r * d ≠ 2 ^ (2 * k)))) (-((e - s) / 2) - k - 1)

/-- FRSQRT as the prose names it: the IEEE operation rSqrt, rounded once (R410, D40). -/
def fpRsqrtOnce (f : FpFormat) (env : FpEnv) (x : BitVec f.width) : FpResult f.width :=
  match propagated [x] with
  | some r => r
  | none =>
    match view x with
    | .inf neg => if neg then invalidResult f else ⟨fpZero f false, 0⟩
    | .fin neg m e =>
      if m = 0 then ⟨fpInf f neg, excZ⟩ else if neg then invalidResult f else rsqrtFinite f env m e
    | .nan => invalidResult f

/-- FRSQRT under the implementation's choice (D40; log 46). -/
def fpRsqrt (single : Bool) (f : FpFormat) (env : FpEnv) (x : BitVec f.width) : FpResult f.width :=
  if single then fpRsqrtOnce f env x else fpRsqrtTwice f env x

/-! Comparison (R416). -/

/-- The four relations between two operands. -/
inductive FpRelation where
  | un
  | eq
  | lt
  | gt
deriving DecidableEq, Repr

/-- The relation between two integers. -/
def intRelation (a b : Int) : FpRelation := if a < b then .lt else if a = b then .eq else .gt

/-- The relation between two data: unordered with a NaN, else as the extended reals, +0 equal to -0. -/
def relation {f : FpFormat} (x y : BitVec f.width) : FpRelation :=
  match view x, view y with
  | .nan, _ => .un
  | _, .nan => .un
  | .inf a, .inf b => if a = b then .eq else if a then .lt else .gt
  | .inf a, .fin _ _ _ => if a then .lt else .gt
  | .fin _ _ _, .inf b => if b then .gt else .lt
  | .fin n1 m1 e1, .fin n2 m2 e2 => intRelation (scaled n1 m1 e1 (min e1 e2)) (scaled n2 m2 e2 (min e1 e2))

/-- Whether a condition holds of a relation: bit 1 of cond stands for LT, bit 2 for EQ, bit 3 for UN, bit 4 for GT or LT. -/
def condHolds (cond : BitVec 5) (r : FpRelation) : Bool :=
  match r with
  | .lt => cond.getLsbD 1 || cond.getLsbD 4
  | .eq => cond.getLsbD 2
  | .un => cond.getLsbD 3
  | .gt => cond.getLsbD 4

/-- V of a comparison: a signalling NaN, or any NaN when bit 0 of cond is set. -/
def compareExc {f : FpFormat} (cond : BitVec 5) (x y : BitVec f.width) : BitVec 5 :=
  if isSNan x || isSNan y || (cond.getLsbD 0 && (isNan x || isNan y)) then excV else 0

/-! Maximum and minimum (R391, R393, R395, R397). -/

/-- The operand a maximum or minimum returns when neither is a NaN: `x` where `wanted` is the relation of `x` to `y`; for equal
operands that differ the choice is free (U20; log 53). -/
def pickNumber {f : FpFormat} (env : FpEnv) (wanted : FpRelation) (x y : BitVec f.width) : BitVec f.width :=
  if relation x y = .eq then (if env.choice then x else y)
  else if relation x y = wanted then x else y

/-- maxNum (`wanted = .gt`) and minNum (`wanted = .lt`): a number beats a quiet NaN. -/
def fpMaxMin (f : FpFormat) (env : FpEnv) (wanted : FpRelation) (x y : BitVec f.width) : FpResult f.width :=
  if isSNan x || isSNan y || (isNan x && isNan y) then (propagated [x, y]).getD (invalidResult f)
  else if isNan x then ⟨y, 0⟩
  else if isNan y then ⟨x, 0⟩
  else ⟨pickNumber env wanted x y, 0⟩

/-- maxNumMag and minNumMag: by magnitude, equal magnitudes as maxNum and minNum. -/
def fpMaxMinMag (f : FpFormat) (env : FpEnv) (wanted : FpRelation) (x y : BitVec f.width) : FpResult f.width :=
  if isNan x || isNan y || relation (magnitudeOf x) (magnitudeOf y) = .eq then fpMaxMin f env wanted x y
  else if relation (magnitudeOf x) (magnitudeOf y) = wanted then ⟨x, 0⟩ else ⟨y, 0⟩

/-! Sign and class (R402, R404, R412, R414). -/

/-- The magnitude of `x` with the sign of `y`. -/
def fpCopySign {f : FpFormat} (x y : BitVec f.width) : BitVec f.width :=
  magnitudeOf x ||| (y &&& BitVec.ofNat f.width (2 ^ (f.expBits + f.fracBits)))

/-- The bit of FCLASS's result that is set. -/
def classBit {f : FpFormat} (x : BitVec f.width) : Nat :=
  if isSNan x then 0
  else if isNan x then 1
  else
    match view x with
    | .inf neg => if neg then 2 else 6
    | .fin neg m _ =>
      if m = 0 then (if neg then 5 else 9)
      else if expField x = 0 then (if neg then 4 else 8)
      else (if neg then 3 else 7)
    | .nan => 1

/-! Conversion (R421 to R436). -/

/-- A NaN moved to another format: sign kept, fraction cut or padded at its low end, made quiet (R365). -/
def convertedNan (f g : FpFormat) (v : BitVec f.width) : BitVec g.width :=
  quieted (packFp g (signBit v) (infMagnitude g +
    (if f.fracBits ≤ g.fracBits then fracField v * 2 ^ (g.fracBits - f.fracBits)
     else fracField v / 2 ^ (f.fracBits - g.fracBits))))

/-- `convertFormat` from `f` to `g` (R421, R422). -/
def fpConvert (f g : FpFormat) (env : FpEnv) (v : BitVec f.width) : FpResult g.width :=
  match view v with
  | .nan => ⟨convertedNan f g v, if isSNan v then excV else 0⟩
  | .inf neg => ⟨fpInf g neg, 0⟩
  | .fin neg m e => roundFp g env neg m e

/-- `convertFromInt` of a signed word (R423, R424). -/
def fpFromInt (f : FpFormat) (env : FpEnv) (w : Word) : FpResult f.width :=
  roundFp f env (decide (w.toInt < 0)) w.toInt.natAbs 0

/-- A finite value rounded to an integer (R435 (2)). -/
def roundToInt (rm : RoundingMode) (neg : Bool) (m : Nat) (e : Int) : Int :=
  if neg then -(roundUnit rm neg m e 0 : Nat) else (roundUnit rm neg m e 0 : Nat)

/-- `ToSint32` (R435): the word and I, or none where the conversion is invalid. -/
def toSint32 {f : FpFormat} (rm : RoundingMode) (v : BitVec f.width) : Option (Word × BitVec 5) :=
  match view v with
  | .fin neg m e =>
    let r := roundToInt rm neg m e
    if -2147483648 ≤ r ∧ r ≤ 2147483647 then
      some (BitVec.ofInt 32 r, if inexactAt m e 0 then excI else 0)
    else none
  | _ => none

end Sys2Proof.Machine
end

