-- ==== Sys2Proof/Machine/Flags.lean ====
section
/-! DEFINITION. The fields of fcsr0 and the procedure that updates them (10_state.md R47 to R49, 44_float_arith.md R366).
The integer instructions have no flags (R40). -/

namespace Sys2Proof.Machine

/-- fcsr0.Enables (R47). -/
def fpEnables (s : State) : BitVec 5 := s.fcsr0.extractLsb' 0 5
/-- fcsr0.RM (R47). -/
def fpRounding (s : State) : BitVec 2 := s.fcsr0.extractLsb' 8 2
/-- fcsr0.Flags (R47). -/
def fpFlags (s : State) : BitVec 5 := s.fcsr0.extractLsb' 16 5
/-- fcsr0.Cause (R47). -/
def fpCause (s : State) : BitVec 5 := s.fcsr0.extractLsb' 24 5

/-- The bits software may write through FCSR k, for k from 0 to 3 (R48). -/
def fcsrMask (k : BitVec 5) : Word :=
  if k = 0 then 0x1F1F031F else if k = 1 then 0x0000001F else if k = 2 then 0x1F1F0000
  else if k = 3 then 0x00000300 else 0

/-- What FCSR k reads as: the bits of fcsr0 under its mask; a free value for a number with no register (R48, R448, D29). -/
def fcsrRead (k : BitVec 5) (s : State) : Word :=
  if k.toNat < 4 then s.fcsr0 &&& fcsrMask k else Config.freeWord s.draws

/-- Write FCSR k: the bits under its mask; a number with no register leaves every writable bit free (R48, R447, D29). -/
def fcsrWrite (k : BitVec 5) (v : Word) (s : State) : State :=
  { s with fcsr0 :=
      if k.toNat < 4 then setBits s.fcsr0 (fcsrMask k) v
      else setBits s.fcsr0 (fcsrMask 0) (Config.freeWord s.draws) }

/-- Replace fcsr0.Cause. -/
def setFpCause (e : BitVec 5) (s : State) : State :=
  { s with fcsr0 := setBits s.fcsr0 0x1F000000 (e.setWidth 32 <<< 24) }

/-- Add to fcsr0.Flags; a set bit stays (R49). -/
def addFpFlags (e : BitVec 5) (s : State) : State :=
  { s with fcsr0 := s.fcsr0 ||| (e.setWidth 32 <<< 16) }

/-- The status update and trap procedure (R366): Cause becomes the exceptions raised; if one of them is enabled, FPE, with
nothing else changed; else Flags gathers them, `write` delivers the result and the next instruction follows. -/
def fpCommit (e : BitVec 5) (s : State) (write : State → State) : Result :=
  let s1 := setFpCause e s
  if e &&& fpEnables s ≠ 0 then trap .FPE s1
  else .next (advance (write (addFpFlags e s1)))

/-- What an operation reads besides its operands, under a rounding mode (R364, R368). -/
def fpEnvWith (rm : BitVec 2) (s : State) : FpEnv where
  rm := .ofBits rm
  trapU := (fpEnables s).getLsbD 1
  choice := Config.freeChoice s.draws
  invalid := Config.freeInvalid s.draws

/-- Under fcsr0.RM. -/
def fpEnv (s : State) : FpEnv := fpEnvWith (fpRounding s) s

end Sys2Proof.Machine
end

