-- ==== Sys2Proof/Machine/FloatArith.lean ====
section
/-! DEFINITION. Floating-point arithmetic, comparison, sign and class (44_float_arith.md R360 to R416). Each begins with the
availability check (R361) and, where it can raise a floating-point exception, ends with the status procedure (R366). -/

namespace Sys2Proof.Machine

/-- Deliver a single-precision result (R363, R366). -/
def commitS (fd : FReg) (r : FpResult fp32.width) (s : State) : Result := fpCommit r.exc s (fprSetW fd r.bits)

/-- Deliver a double-precision result (R363, R366). -/
def commitD (fd : FReg) (r : FpResult fp64.width) (s : State) : Result := fpCommit r.exc s (fprSet fd r.bits)

/-- Deliver a comparison (R400, R416). -/
def commitFlag (cd : CFlag) (cond : BitVec 5) {f : FpFormat} (x y : BitVec f.width) (s : State) : Result :=
  fpCommit (compareExc cond x y) s (cfSet cd (condHolds cond (relation x y)))

/-- FCMP in single precision under a condition (R400, R416). -/
def compareS (cond : BitVec 5) (cd : CFlag) (fj fk : FReg) (s : State) : Result :=
  floating false s (commitFlag cd cond (f := fp32) (fprGetW fj s) (fprGetW fk s) s)

/-- FCMP in double precision under a condition (R401, R416). -/
def compareD (cond : BitVec 5) (cd : CFlag) (fj fk : FReg) (s : State) : Result :=
  floating true s (commitFlag cd cond (f := fp64) (fprGet fj s) (fprGet fk s) s)

/-- An arithmetic instruction on two single operands. -/
def binaryS (op : FpEnv → Word → Word → FpResult fp32.width) (fd fj fk : FReg) (s : State) : Result :=
  floating false s (commitS fd (op (fpEnv s) (fprGetW fj s) (fprGetW fk s)) s)

/-- An arithmetic instruction on two double operands. -/
def binaryD (op : FpEnv → DWord → DWord → FpResult fp64.width) (fd fj fk : FReg) (s : State) : Result :=
  floating true s (commitD fd (op (fpEnv s) (fprGet fj s) (fprGet fk s)) s)

/-- An arithmetic instruction on three single operands. -/
def ternaryS (op : FpEnv → Word → Word → Word → FpResult fp32.width) (fd fj fk fa : FReg) (s : State) : Result :=
  floating false s (commitS fd (op (fpEnv s) (fprGetW fj s) (fprGetW fk s) (fprGetW fa s)) s)

/-- An arithmetic instruction on three double operands. -/
def ternaryD (op : FpEnv → DWord → DWord → DWord → FpResult fp64.width) (fd fj fk fa : FReg) (s : State) : Result :=
  floating true s (commitD fd (op (fpEnv s) (fprGet fj s) (fprGet fk s) (fprGet fa s)) s)

/-- An arithmetic instruction on one single operand. -/
def unaryS (op : FpEnv → Word → FpResult fp32.width) (fd fj : FReg) (s : State) : Result :=
  floating false s (commitS fd (op (fpEnv s) (fprGetW fj s)) s)

/-- An arithmetic instruction on one double operand. -/
def unaryD (op : FpEnv → DWord → FpResult fp64.width) (fd fj : FReg) (s : State) : Result :=
  floating true s (commitD fd (op (fpEnv s) (fprGet fj s)) s)

/-- A bit edit that leaves fcsr0 alone, written as a single or word (D33; log 39). -/
def editS (v : Word) (fd : FReg) (s : State) : Result := floating false s (.next (advance (fprSetW fd v s)))

/-- A bit edit that leaves fcsr0 alone, written as a double (D33; log 39). -/
def editD (v : DWord) (fd : FReg) (s : State) : Result := floating true s (.next (advance (fprSet fd v s)))

/-- FADD.S (R375). -/
def execFaddS (fd fj fk : FReg) (s : State) : Result :=
  binaryS (fpAdd fp32) fd fj fk s

/-- FADD.D (R376). -/
def execFaddD (fd fj fk : FReg) (s : State) : Result :=
  binaryD (fpAdd fp64) fd fj fk s

/-- FSUB.S (R377). -/
def execFsubS (fd fj fk : FReg) (s : State) : Result :=
  binaryS (fpSub fp32) fd fj fk s

/-- FSUB.D (R378). -/
def execFsubD (fd fj fk : FReg) (s : State) : Result :=
  binaryD (fpSub fp64) fd fj fk s

/-- FMUL.S (R379). -/
def execFmulS (fd fj fk : FReg) (s : State) : Result :=
  binaryS (fpMul fp32) fd fj fk s

/-- FMUL.D (R380). -/
def execFmulD (fd fj fk : FReg) (s : State) : Result :=
  binaryD (fpMul fp64) fd fj fk s

/-- FDIV.S (R381). -/
def execFdivS (fd fj fk : FReg) (s : State) : Result :=
  binaryS (fpDiv fp32) fd fj fk s

/-- FDIV.D (R382). -/
def execFdivD (fd fj fk : FReg) (s : State) : Result :=
  binaryD (fpDiv fp64) fd fj fk s

/-- FMAX.S (R391). -/
def execFmaxS (fd fj fk : FReg) (s : State) : Result :=
  binaryS (fun e x y => fpMaxMin fp32 e .gt x y) fd fj fk s

/-- FMAX.D (R392). -/
def execFmaxD (fd fj fk : FReg) (s : State) : Result :=
  binaryD (fun e x y => fpMaxMin fp64 e .gt x y) fd fj fk s

/-- FMIN.S (R393). -/
def execFminS (fd fj fk : FReg) (s : State) : Result :=
  binaryS (fun e x y => fpMaxMin fp32 e .lt x y) fd fj fk s

/-- FMIN.D (R394). -/
def execFminD (fd fj fk : FReg) (s : State) : Result :=
  binaryD (fun e x y => fpMaxMin fp64 e .lt x y) fd fj fk s

/-- FMAXA.S (R395). -/
def execFmaxaS (fd fj fk : FReg) (s : State) : Result :=
  binaryS (fun e x y => fpMaxMinMag fp32 e .gt x y) fd fj fk s

/-- FMAXA.D (R396). -/
def execFmaxaD (fd fj fk : FReg) (s : State) : Result :=
  binaryD (fun e x y => fpMaxMinMag fp64 e .gt x y) fd fj fk s

/-- FMINA.S (R397). -/
def execFminaS (fd fj fk : FReg) (s : State) : Result :=
  binaryS (fun e x y => fpMaxMinMag fp32 e .lt x y) fd fj fk s

/-- FMINA.D (R398). -/
def execFminaD (fd fj fk : FReg) (s : State) : Result :=
  binaryD (fun e x y => fpMaxMinMag fp64 e .lt x y) fd fj fk s

/-- FMADD.S (R383). -/
def execFmaddS (fd fj fk fa : FReg) (s : State) : Result :=
  ternaryS (fpFma fp32) fd fj fk fa s

/-- FMADD.D (R384). -/
def execFmaddD (fd fj fk fa : FReg) (s : State) : Result :=
  ternaryD (fpFma fp64) fd fj fk fa s

/-- FMSUB.S (R385). -/
def execFmsubS (fd fj fk fa : FReg) (s : State) : Result :=
  ternaryS (fpFms fp32) fd fj fk fa s

/-- FMSUB.D (R386). -/
def execFmsubD (fd fj fk fa : FReg) (s : State) : Result :=
  ternaryD (fpFms fp64) fd fj fk fa s

/-- FNMADD.S (R387). -/
def execFnmaddS (fd fj fk fa : FReg) (s : State) : Result :=
  ternaryS (fun e x y z => negatedResult (fpFma fp32 e x y z)) fd fj fk fa s

/-- FNMADD.D (R388). -/
def execFnmaddD (fd fj fk fa : FReg) (s : State) : Result :=
  ternaryD (fun e x y z => negatedResult (fpFma fp64 e x y z)) fd fj fk fa s

/-- FNMSUB.S (R389). -/
def execFnmsubS (fd fj fk fa : FReg) (s : State) : Result :=
  ternaryS (fun e x y z => negatedResult (fpFms fp32 e x y z)) fd fj fk fa s

/-- FNMSUB.D (R390). -/
def execFnmsubD (fd fj fk fa : FReg) (s : State) : Result :=
  ternaryD (fun e x y z => negatedResult (fpFms fp64 e x y z)) fd fj fk fa s

/-- FSQRT.S (R406). -/
def execFsqrtS (fd fj : FReg) (s : State) : Result :=
  unaryS (fpSqrt fp32) fd fj s

/-- FSQRT.D (R407). -/
def execFsqrtD (fd fj : FReg) (s : State) : Result :=
  unaryD (fpSqrt fp64) fd fj s

/-- FRECIP.S (R408). -/
def execFrecipS (fd fj : FReg) (s : State) : Result :=
  unaryS (fpRecip fp32) fd fj s

/-- FRECIP.D (R409). -/
def execFrecipD (fd fj : FReg) (s : State) : Result :=
  unaryD (fpRecip fp64) fd fj s

/-- FRSQRT.S (R410). -/
def execFrsqrtS (fd fj : FReg) (s : State) : Result :=
  unaryS (fpRsqrt s.cfg.frsqrtSingleRounding fp32) fd fj s

/-- FRSQRT.D (R411). -/
def execFrsqrtD (fd fj : FReg) (s : State) : Result :=
  unaryD (fpRsqrt s.cfg.frsqrtSingleRounding fp64) fd fj s

/-- FABS.S (R402). -/
def execFabsS (fd fj : FReg) (s : State) : Result :=
  editS (magnitudeOf (f := fp32) (fprGetW fj s)) fd s

/-- FABS.D (R403). -/
def execFabsD (fd fj : FReg) (s : State) : Result :=
  editD (magnitudeOf (f := fp64) (fprGet fj s)) fd s

/-- FNEG.S (R404). -/
def execFnegS (fd fj : FReg) (s : State) : Result :=
  editS (negated (f := fp32) (fprGetW fj s)) fd s

/-- FNEG.D (R405). -/
def execFnegD (fd fj : FReg) (s : State) : Result :=
  editD (negated (f := fp64) (fprGet fj s)) fd s

/-- FCOPYSIGN.S: magnitude of fj, sign of fk (R412). -/
def execFcopysignS (fd fj fk : FReg) (s : State) : Result :=
  editS (fpCopySign (f := fp32) (fprGetW fj s) (fprGetW fk s)) fd s

/-- FCOPYSIGN.D: magnitude of fj, sign of fk (R413). -/
def execFcopysignD (fd fj fk : FReg) (s : State) : Result :=
  editD (fpCopySign (f := fp64) (fprGet fj s) (fprGet fk s)) fd s

/-- FCLASS.S: one bit of ten (R414). -/
def execFclassS (fd fj : FReg) (s : State) : Result :=
  editS (BitVec.ofNat 32 (2 ^ classBit (f := fp32) (fprGetW fj s))) fd s

/-- FCLASS.D: one bit of ten (R415). -/
def execFclassD (fd fj : FReg) (s : State) : Result :=
  editD (BitVec.ofNat 64 (2 ^ classBit (f := fp64) (fprGet fj s))) fd s

/-- FCMP.CAF.S (R400, R416). -/
def execFcmpCafS (cd : CFlag) (fj fk : FReg) (s : State) : Result :=
  compareS 0x00 cd fj fk s

/-- FCMP.SAF.S (R400, R416). -/
def execFcmpSafS (cd : CFlag) (fj fk : FReg) (s : State) : Result :=
  compareS 0x01 cd fj fk s

/-- FCMP.CLT.S (R400, R416). -/
def execFcmpCltS (cd : CFlag) (fj fk : FReg) (s : State) : Result :=
  compareS 0x02 cd fj fk s

/-- FCMP.SLT.S (R400, R416). -/
def execFcmpSltS (cd : CFlag) (fj fk : FReg) (s : State) : Result :=
  compareS 0x03 cd fj fk s

/-- FCMP.CEQ.S (R400, R416). -/
def execFcmpCeqS (cd : CFlag) (fj fk : FReg) (s : State) : Result :=
  compareS 0x04 cd fj fk s

/-- FCMP.SEQ.S (R400, R416). -/
def execFcmpSeqS (cd : CFlag) (fj fk : FReg) (s : State) : Result :=
  compareS 0x05 cd fj fk s

/-- FCMP.CLE.S (R400, R416). -/
def execFcmpCleS (cd : CFlag) (fj fk : FReg) (s : State) : Result :=
  compareS 0x06 cd fj fk s

/-- FCMP.SLE.S (R400, R416). -/
def execFcmpSleS (cd : CFlag) (fj fk : FReg) (s : State) : Result :=
  compareS 0x07 cd fj fk s

/-- FCMP.CUN.S (R400, R416). -/
def execFcmpCunS (cd : CFlag) (fj fk : FReg) (s : State) : Result :=
  compareS 0x08 cd fj fk s

/-- FCMP.SUN.S (R400, R416). -/
def execFcmpSunS (cd : CFlag) (fj fk : FReg) (s : State) : Result :=
  compareS 0x09 cd fj fk s

/-- FCMP.CULT.S (R400, R416). -/
def execFcmpCultS (cd : CFlag) (fj fk : FReg) (s : State) : Result :=
  compareS 0x0a cd fj fk s

/-- FCMP.SULT.S (R400, R416). -/
def execFcmpSultS (cd : CFlag) (fj fk : FReg) (s : State) : Result :=
  compareS 0x0b cd fj fk s

/-- FCMP.CUEQ.S (R400, R416). -/
def execFcmpCueqS (cd : CFlag) (fj fk : FReg) (s : State) : Result :=
  compareS 0x0c cd fj fk s

/-- FCMP.SUEQ.S (R400, R416). -/
def execFcmpSueqS (cd : CFlag) (fj fk : FReg) (s : State) : Result :=
  compareS 0x0d cd fj fk s

/-- FCMP.CULE.S (R400, R416). -/
def execFcmpCuleS (cd : CFlag) (fj fk : FReg) (s : State) : Result :=
  compareS 0x0e cd fj fk s

/-- FCMP.SULE.S (R400, R416). -/
def execFcmpSuleS (cd : CFlag) (fj fk : FReg) (s : State) : Result :=
  compareS 0x0f cd fj fk s

/-- FCMP.CNE.S (R400, R416). -/
def execFcmpCneS (cd : CFlag) (fj fk : FReg) (s : State) : Result :=
  compareS 0x10 cd fj fk s

/-- FCMP.SNE.S (R400, R416). -/
def execFcmpSneS (cd : CFlag) (fj fk : FReg) (s : State) : Result :=
  compareS 0x11 cd fj fk s

/-- FCMP.COR.S (R400, R416). -/
def execFcmpCorS (cd : CFlag) (fj fk : FReg) (s : State) : Result :=
  compareS 0x14 cd fj fk s

/-- FCMP.SOR.S (R400, R416). -/
def execFcmpSorS (cd : CFlag) (fj fk : FReg) (s : State) : Result :=
  compareS 0x15 cd fj fk s

/-- FCMP.CUNE.S (R400, R416). -/
def execFcmpCuneS (cd : CFlag) (fj fk : FReg) (s : State) : Result :=
  compareS 0x18 cd fj fk s

/-- FCMP.SUNE.S (R400, R416). -/
def execFcmpSuneS (cd : CFlag) (fj fk : FReg) (s : State) : Result :=
  compareS 0x19 cd fj fk s

/-- FCMP.CAF.D (R401, R416). -/
def execFcmpCafD (cd : CFlag) (fj fk : FReg) (s : State) : Result :=
  compareD 0x00 cd fj fk s

/-- FCMP.SAF.D (R401, R416). -/
def execFcmpSafD (cd : CFlag) (fj fk : FReg) (s : State) : Result :=
  compareD 0x01 cd fj fk s

/-- FCMP.CLT.D (R401, R416). -/
def execFcmpCltD (cd : CFlag) (fj fk : FReg) (s : State) : Result :=
  compareD 0x02 cd fj fk s

/-- FCMP.SLT.D (R401, R416). -/
def execFcmpSltD (cd : CFlag) (fj fk : FReg) (s : State) : Result :=
  compareD 0x03 cd fj fk s

/-- FCMP.CEQ.D (R401, R416). -/
def execFcmpCeqD (cd : CFlag) (fj fk : FReg) (s : State) : Result :=
  compareD 0x04 cd fj fk s

/-- FCMP.SEQ.D (R401, R416). -/
def execFcmpSeqD (cd : CFlag) (fj fk : FReg) (s : State) : Result :=
  compareD 0x05 cd fj fk s

/-- FCMP.CLE.D (R401, R416). -/
def execFcmpCleD (cd : CFlag) (fj fk : FReg) (s : State) : Result :=
  compareD 0x06 cd fj fk s

/-- FCMP.SLE.D (R401, R416). -/
def execFcmpSleD (cd : CFlag) (fj fk : FReg) (s : State) : Result :=
  compareD 0x07 cd fj fk s

/-- FCMP.CUN.D (R401, R416). -/
def execFcmpCunD (cd : CFlag) (fj fk : FReg) (s : State) : Result :=
  compareD 0x08 cd fj fk s

/-- FCMP.SUN.D (R401, R416). -/
def execFcmpSunD (cd : CFlag) (fj fk : FReg) (s : State) : Result :=
  compareD 0x09 cd fj fk s

/-- FCMP.CULT.D (R401, R416). -/
def execFcmpCultD (cd : CFlag) (fj fk : FReg) (s : State) : Result :=
  compareD 0x0a cd fj fk s

/-- FCMP.SULT.D (R401, R416). -/
def execFcmpSultD (cd : CFlag) (fj fk : FReg) (s : State) : Result :=
  compareD 0x0b cd fj fk s

/-- FCMP.CUEQ.D (R401, R416). -/
def execFcmpCueqD (cd : CFlag) (fj fk : FReg) (s : State) : Result :=
  compareD 0x0c cd fj fk s

/-- FCMP.SUEQ.D (R401, R416). -/
def execFcmpSueqD (cd : CFlag) (fj fk : FReg) (s : State) : Result :=
  compareD 0x0d cd fj fk s

/-- FCMP.CULE.D (R401, R416). -/
def execFcmpCuleD (cd : CFlag) (fj fk : FReg) (s : State) : Result :=
  compareD 0x0e cd fj fk s

/-- FCMP.SULE.D (R401, R416). -/
def execFcmpSuleD (cd : CFlag) (fj fk : FReg) (s : State) : Result :=
  compareD 0x0f cd fj fk s

/-- FCMP.CNE.D (R401, R416). -/
def execFcmpCneD (cd : CFlag) (fj fk : FReg) (s : State) : Result :=
  compareD 0x10 cd fj fk s

/-- FCMP.SNE.D (R401, R416). -/
def execFcmpSneD (cd : CFlag) (fj fk : FReg) (s : State) : Result :=
  compareD 0x11 cd fj fk s

/-- FCMP.COR.D (R401, R416). -/
def execFcmpCorD (cd : CFlag) (fj fk : FReg) (s : State) : Result :=
  compareD 0x14 cd fj fk s

/-- FCMP.SOR.D (R401, R416). -/
def execFcmpSorD (cd : CFlag) (fj fk : FReg) (s : State) : Result :=
  compareD 0x15 cd fj fk s

/-- FCMP.CUNE.D (R401, R416). -/
def execFcmpCuneD (cd : CFlag) (fj fk : FReg) (s : State) : Result :=
  compareD 0x18 cd fj fk s

/-- FCMP.SUNE.D (R401, R416). -/
def execFcmpSuneD (cd : CFlag) (fj fk : FReg) (s : State) : Result :=
  compareD 0x19 cd fj fk s

end Sys2Proof.Machine
end

