-- ==== Sys2Proof/Machine/FloatConv.lean ====
section
/-! DEFINITION. Floating-point conversions (45_float_conv_move.md R421 to R436). -/

namespace Sys2Proof.Machine

/-- The word a float-to-integer conversion delivers and its exceptions; an invalid one delivers the implementation's value,
with V (R435, D19; log 28). -/
def toWordS (rm : BitVec 2) (v : Word) : FpResult 32 :=
  match toSint32 (f := fp32) (.ofBits rm) v with
  | some (w, e) => ⟨w, e⟩
  | none => ⟨Config.ftintInvalidS v rm, excV⟩

/-- The same for a double operand. -/
def toWordD (rm : BitVec 2) (v : DWord) : FpResult 32 :=
  match toSint32 (f := fp64) (.ofBits rm) v with
  | some (w, e) => ⟨w, e⟩
  | none => ⟨Config.ftintInvalidD v rm, excV⟩

/-- FTINT of a single in a rounding mode: the word goes to bits 31:0 (R435). -/
def convertToWordS (rm : BitVec 2) (fd fj : FReg) (s : State) : Result :=
  floating false s (commitS fd (toWordS rm (fprGetW fj s)) s)

/-- FTINT of a double in a rounding mode: the word goes to bits 31:0 (R435). -/
def convertToWordD (rm : BitVec 2) (fd fj : FReg) (s : State) : Result :=
  floating true s (commitS fd (toWordD rm (fprGet fj s)) s)

/-- FCVT.S.D (R421). -/
def execFcvtSD (fd fj : FReg) (s : State) : Result :=
  floating true s (commitS fd (fpConvert fp64 fp32 (fpEnv s) (fprGet fj s)) s)

/-- FCVT.D.S (R422). -/
def execFcvtDS (fd fj : FReg) (s : State) : Result :=
  floating true s (commitD fd (fpConvert fp32 fp64 (fpEnv s) (fprGetW fj s)) s)

/-- FFINT.S.W (R423). -/
def execFfintSW (fd fj : FReg) (s : State) : Result :=
  floating false s (commitS fd (fpFromInt fp32 (fpEnv s) (fprGetW fj s)) s)

/-- FFINT.D.W (R424). -/
def execFfintDW (fd fj : FReg) (s : State) : Result :=
  floating true s (commitD fd (fpFromInt fp64 (fpEnv s) (fprGetW fj s)) s)

/-- FTINT.W.S: in the mode fcsr0.RM (R425). -/
def execFtintWS (fd fj : FReg) (s : State) : Result :=
  convertToWordS (fpRounding s) fd fj s

/-- FTINT.W.D: in the mode fcsr0.RM (R426). -/
def execFtintWD (fd fj : FReg) (s : State) : Result :=
  convertToWordD (fpRounding s) fd fj s

/-- FTINTRM.W.S: toward negative (R427). -/
def execFtintrmWS (fd fj : FReg) (s : State) : Result :=
  convertToWordS 3 fd fj s

/-- FTINTRM.W.D: toward negative (R428). -/
def execFtintrmWD (fd fj : FReg) (s : State) : Result :=
  convertToWordD 3 fd fj s

/-- FTINTRP.W.S: toward positive (R429). -/
def execFtintrpWS (fd fj : FReg) (s : State) : Result :=
  convertToWordS 2 fd fj s

/-- FTINTRP.W.D: toward positive (R430). -/
def execFtintrpWD (fd fj : FReg) (s : State) : Result :=
  convertToWordD 2 fd fj s

/-- FTINTRZ.W.S: toward zero (R431). -/
def execFtintrzWS (fd fj : FReg) (s : State) : Result :=
  convertToWordS 1 fd fj s

/-- FTINTRZ.W.D: toward zero (R432). -/
def execFtintrzWD (fd fj : FReg) (s : State) : Result :=
  convertToWordD 1 fd fj s

/-- FTINTRNE.W.S: to nearest, ties to even (R433). -/
def execFtintrneWS (fd fj : FReg) (s : State) : Result :=
  convertToWordS 0 fd fj s

/-- FTINTRNE.W.D: to nearest, ties to even (R434). -/
def execFtintrneWD (fd fj : FReg) (s : State) : Result :=
  convertToWordD 0 fd fj s

end Sys2Proof.Machine
end

