-- ==== Sys2Proof/Machine/Translate.lean ====
section
/-! DEFINITION. Address translation (20_memory.md R145 to R165). Physical addresses are natural numbers below 2^PALEN. -/

namespace Sys2Proof.Machine

/-- What an access is for (R145). -/
inductive AccessKind where
  | fetch
  | load
  | store
deriving DecidableEq, Repr

/-- A translated address and its memory access type: 0 strongly-ordered uncached, 1 coherent cached, 2 and 3 reserved (R139). -/
structure Target where
  pa : Nat
  mat : BitVec 2
deriving DecidableEq, Repr

/-- Direct address translation mode: the low PALEN bits of the address (R146, R165). -/
def directTarget (k : AccessKind) (va : Word) (s : State) : Target where
  pa := va.toNat % 2 ^ s.cfg.palen
  mat := if k = .fetch then directFetchType s else directDataType s

/-! Direct-mapped windows (R99, R155). -/

/-- Bits 31:29 equal VSEG and the window is open at the level: bit PLV0 at level 0, bit PLV3 at level 3. -/
def windowHit (w : Word) (level : BitVec 2) (va : Word) : Bool :=
  va.extractLsb' 29 3 == w.extractLsb' 29 3 && ((level == 0 && w.getLsbD 0) || (level == 3 && w.getLsbD 3))

/-- PSEG above bits 28:0 of the address, and the window's access type. -/
def windowTarget (w : Word) (va : Word) (s : State) : Target where
  pa := (w.extractLsb' 25 3 ++ va.extractLsb' 0 29).toNat % 2 ^ s.cfg.palen
  mat := w.extractLsb' 4 2

/-- The windows the implementation has (R9 `DMW_COUNT`): DMW0 first (log 65). -/
def windows (s : State) : List Word := [s.csr.dmw0, s.csr.dmw1].take s.cfg.dmwCount

/-- What the windows that hit an address give (R155). -/
def windowTargets (va : Word) (s : State) : List Target :=
  ((windows s).filter fun w => windowHit w (plv s) va).map fun w => windowTarget w va s

/-! The TLB (R57, R160). -/

/-- Two addresses agree in bits 31 : ps + 1 (R160, R161). -/
def samePagePair (ps : BitVec 6) (a b : Word) : Bool := a >>> (ps.toNat + 1) == b >>> (ps.toNat + 1)

/-- VPPN at its place in an address: bits 31:13. -/
def vppnAddress (v : BitVec 19) : Word := v ++ (0 : BitVec 13)

/-- A non-empty entry, global or of the address space, whose page pair holds the address (R160). -/
def tlbMatch (e : TlbEntry) (asid : BitVec 10) (va : Word) : Bool :=
  e.e && (e.g || e.asid == asid) && samePagePair e.ps (vppnAddress e.vppn) va

/-- The page of a pair an address lies in: bit PS selects the odd one (R160). -/
def pageOf (e : TlbEntry) (va : Word) : TlbPage := if va.getLsbD e.ps.toNat then e.page1 else e.page0

/-- The PPN bits above the page size over the offset in the page (R160, R161). -/
def pageAddress (e : TlbEntry) (va : Word) (s : State) : Nat :=
  ((pageOf e va).ppn.toNat / 2 ^ (e.ps.toNat - 12) * 2 ^ e.ps.toNat + va.toNat % 2 ^ e.ps.toNat) % 2 ^ s.cfg.palen

/-- The exception of a page that is not valid (R160). -/
def invalidPageExc : AccessKind → Exc
  | .fetch => .PIF
  | .load => .PIL
  | .store => .PIS

/-- The checks on the page found: V, then the level, then D of a store (R160, R162). -/
def checkPage (k : AccessKind) (e : TlbEntry) (va : Word) (s : State) : Access Target :=
  if (pageOf e va).v = false then .raise (invalidPageExc k) va
  else if (pageOf e va).plv < plv s then .raise .PPI va
  else if k = .store ∧ (pageOf e va).d = false then .raise .PME va
  else .ok ⟨pageAddress e va s, (pageOf e va).mat⟩

/-- `TLBTranslate` (R160): no match is a TLB refill, more than one match is refused (R163). -/
def tlbTranslate (k : AccessKind) (va : Word) (s : State) : Access Target :=
  match s.tlb.filter fun e => tlbMatch e (currentAsid s) va with
  | [] => .raise .TLBR va
  | [e] => checkPage k e va s
  | _ => .refuse .multipleTlbHit

/-- Mapped address translation mode: the windows first, two that differ refused (R155, R157), then the TLB. -/
def mappedTranslate (k : AccessKind) (va : Word) (s : State) : Access Target :=
  match windowTargets va s with
  | [] => tlbTranslate k va s
  | t :: rest => if rest.all (· == t) then .ok t else .refuse .conflictingWindows

/-- `Translate(va, kind)` (R145, R147). -/
def translate (k : AccessKind) (va : Word) (s : State) : Access Target :=
  match directBit s, pagingBit s with
  | true, false => .ok (directTarget k va s)
  | false, true => mappedTranslate k va s
  | _, _ => .refuse .illegalTranslationMode

/-- A reserved access type is refused (R139, D13; log 24). -/
def typed (t : Target) : Access Target := if t.mat.toNat < 2 then .ok t else .refuse .reservedAccessType

end Sys2Proof.Machine
end

