-- ==== Sys2Proof/Machine/Access.lean ====
section
/-! DEFINITION. Loads and stores of one datum of 1, 2, 4 or 8 bytes (42_memory_access.md R320): alignment, translation, what
the platform has at the address, and the data. -/

namespace Sys2Proof.Machine

/-- Where an access goes: its target and what the platform has there. -/
structure Place where
  target : Target
  kind : Config.RegionKind
deriving DecidableEq, Repr

/-- An access to a physical address with nothing behind it is refused (R143, D24, U42; log 9). -/
def placed (t : Target) (s : State) : Access Place :=
  if regionKind t.pa s = .nothing then .refuse (.nothingAtAddress t.pa) else .ok ⟨t, regionKind t.pa s⟩

/-- Steps 2 and 3 of R320 for `n` bytes: alignment on the virtual address first (R135, R551), then translation. -/
def resolve (k : AccessKind) (n : Nat) (va : Word) (s : State) : Access Target :=
  if va.toNat % n ≠ 0 then .raise .ALE va else (translate k va s).bind typed

/-- Those steps, and what the platform has there. -/
def locate (k : AccessKind) (n : Nat) (va : Word) (s : State) : Access Place :=
  (resolve k n va s).bind fun t => placed t s

/-- Those steps for LL.W and SC.W, which need coherent cached memory (R338, D36; log 42); nothing is accessed yet. -/
def resolveReserved (k : AccessKind) (va : Word) (s : State) : Access Target :=
  (resolve k 4 va s).bind fun t => if t.mat = 1 then .ok t else .refuse .uncachedReservation

/-- The `n` bytes a load reads: memory, or a free value from a device (R132, R143). -/
def loadValue (p : Place) (n : Nat) (s : State) : DWord :=
  if p.kind = .device then Config.deviceData s.draws &&& BitVec.ofNat 64 (2 ^ (8 * n) - 1)
  else s.mem.read p.target.pa n

/-- A load from a device is recorded, once: R140 promises that for strongly-ordered uncached loads alone, and R141 lets a coherent
cached one be repeated, so for that type it is a DESIGN CHOICE (log 64). A load from memory changes nothing. -/
def afterLoad (p : Place) (n : Nat) (s : State) : State :=
  { s with io := if p.kind = .device then ⟨false, p.target.pa, n, loadValue p n s⟩ :: s.io else s.io }

/-- Two physical addresses lie in one line of a cache (R486). -/
def sameLine (c : Config.CacheGeometry) (a b : Nat) : Bool := a / 2 ^ c.offset == b / 2 ^ c.offset

/-- The aligned words that `n` bytes at an address touch, as they are: what a fetch may still see after a store to them (R185).
A store through the cache needs the whole sequence of R185, any other only IBAR. -/
def staleWords (m : Memory) (pa n : Nat) (stage : SyncStage) : List StaleWord :=
  (List.range ((n + 3) / 4)).map fun i => ⟨pa / 4 * 4 + 4 * i, m.word (pa / 4 * 4 + 4 * i), stage⟩

/-- Store the low `n` bytes of a value: to memory, or as a recorded write to a device; a store to ROM is refused (R143). -/
def storeAt (p : Place) (n : Nat) (v : DWord) (s : State) : Access State :=
  match p.kind with
  | .ram => .ok { s with
      mem := s.mem.write p.target.pa v n
      stale := staleWords s.mem p.target.pa n (if p.target.mat = 1 then .stored else .invalidated) ++ s.stale }
  | .rom => .refuse (.storeToRom p.target.pa)
  | .device => .ok { s with io := ⟨true, p.target.pa, n, v &&& BitVec.ofNat 64 (2 ^ (8 * n) - 1)⟩ :: s.io }
  | .nothing => .refuse (.nothingAtAddress p.target.pa)

/-- A load of `n` bytes: `deliver` puts the value where it goes (R320 (5), (6)). -/
def loadThen (n : Nat) (va : Word) (s : State) (deliver : DWord → State → State) : Result :=
  (locate .load n va s).finish s fun p => .next (advance (deliver (loadValue p n s) (afterLoad p n s)))

/-- A store of `n` bytes (R320). -/
def storeThen (n : Nat) (v : DWord) (va : Word) (s : State) : Result :=
  (locate .store n va s).finish s fun p => (storeAt p n v s).finish s fun s' => .next (advance s')

end Sys2Proof.Machine
end

