-- ==== Sys2Proof/Machine/FloatMove.lean ====
section
/-! DEFINITION. Floating-point moves, branches, loads and stores (45_float_conv_move.md R440 to R463). None raises a
floating-point exception; only MOVGR2FCSR writes fcsr0 (R420). -/

namespace Sys2Proof.Machine

/-- FMOV.S: the bits are copied (R440; log 55). -/
def execFmovS (fd fj : FReg) (s : State) : Result :=
  floating false s (.next (advance (fprSetW fd (fprGetW fj s) s)))

/-- FMOV.D: the bits are copied (R441; log 55). -/
def execFmovD (fd fj : FReg) (s : State) : Result :=
  floating true s (.next (advance (fprSet fd (fprGet fj s) s)))

/-- FSEL: the whole register (R442). -/
def execFsel (fd fj fk : FReg) (ca : CFlag) (s : State) : Result :=
  floating false s (.next (advance (fprSet fd (if cfGet ca s then fprGet fk s else fprGet fj s) s)))

/-- MOVGR2FR.W (R443). -/
def execMovgr2frW (fd : FReg) (rj : Reg) (s : State) : Result :=
  floating false s (.next (advance (fprSetW fd (gprGet rj s) s)))

/-- MOVGR2FRH.W: bits 31:0 are kept (R444). -/
def execMovgr2frhW (fd : FReg) (rj : Reg) (s : State) : Result :=
  floating true s (.next (advance (fprSet fd (gprGet rj s ++ fprGetW fd s) s)))

/-- MOVFR2GR.S (R445). -/
def execMovfr2grS (rd : Reg) (fj : FReg) (s : State) : Result :=
  floating false s (.next (advance (gprSet rd (fprGetW fj s) s)))

/-- MOVFRH2GR.S (R446). -/
def execMovfrh2grS (rd : Reg) (fj : FReg) (s : State) : Result :=
  floating true s (.next (advance (gprSet rd ((fprGet fj s).extractLsb' 32 32) s)))

/-- MOVGR2FCSR: raises no FPE (R447). -/
def execMovgr2fcsr (fcsr : BitVec 5) (rj : Reg) (s : State) : Result :=
  floating false s (.next (advance (fcsrWrite fcsr (gprGet rj s) s)))

/-- MOVFCSR2GR (R448). -/
def execMovfcsr2gr (rd : Reg) (fcsr : BitVec 5) (s : State) : Result :=
  floating false s (.next (advance (gprSet rd (fcsrRead fcsr s) s)))

/-- MOVFR2CF (R449). -/
def execMovfr2cf (cd : CFlag) (fj : FReg) (s : State) : Result :=
  floating false s (.next (advance (cfSet cd ((fprGet fj s).getLsbD 0) s)))

/-- MOVCF2FR: the other bits become 0 (R450). -/
def execMovcf2fr (fd : FReg) (cj : CFlag) (s : State) : Result :=
  floating false s (.next (advance (fprSet fd ((BitVec.ofBool (cfGet cj s)).setWidth 64) s)))

/-- MOVGR2CF (R451). -/
def execMovgr2cf (cd : CFlag) (rj : Reg) (s : State) : Result :=
  floating false s (.next (advance (cfSet cd ((gprGet rj s).getLsbD 0) s)))

/-- MOVCF2GR: the other bits become 0 (R452). -/
def execMovcf2gr (rd : Reg) (cj : CFlag) (s : State) : Result :=
  floating false s (.next (advance (gprSet rd ((BitVec.ofBool (cfGet cj s)).setWidth 32) s)))

/-- BCEQZ (R455). -/
def execBceqz (cj : CFlag) (offs : BitVec 21) (s : State) : Result :=
  floating false s (branchIf (!cfGet cj s) (offset21 offs) s)

/-- BCNEZ (R456). -/
def execBcnez (cj : CFlag) (offs : BitVec 21) (s : State) : Result :=
  floating false s (branchIf (cfGet cj s) (offset21 offs) s)

/-- FLD.S (R460). -/
def execFldS (fd : FReg) (rj : Reg) (si12 : BitVec 12) (s : State) : Result :=
  floating false s (loadThen 4 (address12 rj si12 s) s fun v => fprSetW fd (v.setWidth 32))

/-- FLD.D (R461). -/
def execFldD (fd : FReg) (rj : Reg) (si12 : BitVec 12) (s : State) : Result :=
  floating true s (loadThen 8 (address12 rj si12 s) s fun v => fprSet fd v)

/-- FST.S (R462). -/
def execFstS (fd : FReg) (rj : Reg) (si12 : BitVec 12) (s : State) : Result :=
  floating false s (storeThen 4 ((fprGetW fd s).setWidth 64) (address12 rj si12 s) s)

/-- FST.D (R463). -/
def execFstD (fd : FReg) (rj : Reg) (si12 : BitVec 12) (s : State) : Result :=
  floating true s (storeThen 8 (fprGet fd s) (address12 rj si12 s) s)

end Sys2Proof.Machine
end

