-- ==== Sys2Proof/Machine/Integer.lean ====
section
/-! DEFINITION. Integer arithmetic, logic, shift, multiply and divide (40_integer.md R250 to R284). No flags (R40), no
exceptions: every form writes one general register and goes on. -/

namespace Sys2Proof.Machine

/-- Write a result and go on to the next instruction. -/
def putResult (rd : Reg) (v : Word) (s : State) : Result := .next (advance (gprSet rd v s))

/-- The signed quotient, truncated toward zero, modulo 2^32; a free value for a divisor of 0 (R281, D8; log 20, 51). -/
def quotientSigned (a b : Word) (s : State) : Word :=
  if b = 0 then Config.freeWord s.draws else BitVec.ofInt 32 (a.toInt.tdiv b.toInt)

/-- The signed remainder, with the dividend's sign; a free value for a divisor of 0 (R281). -/
def remainderSigned (a b : Word) (s : State) : Word :=
  if b = 0 then Config.freeWord s.draws else BitVec.ofInt 32 (a.toInt.tmod b.toInt)

/-- The unsigned quotient; a free value for a divisor of 0 (R281). -/
def quotientUnsigned (a b : Word) (s : State) : Word :=
  if b = 0 then Config.freeWord s.draws else BitVec.ofNat 32 (a.toNat / b.toNat)

/-- The unsigned remainder; a free value for a divisor of 0 (R281). -/
def remainderUnsigned (a b : Word) (s : State) : Word :=
  if b = 0 then Config.freeWord s.draws else BitVec.ofNat 32 (a.toNat % b.toNat)

/-- ADD.W (R251). -/
def execAddW (rd rj rk : Reg) (s : State) : Result :=
  putResult rd (gprGet rj s + gprGet rk s) s

/-- SUB.W (R252). -/
def execSubW (rd rj rk : Reg) (s : State) : Result :=
  putResult rd (gprGet rj s - gprGet rk s) s

/-- ADDI.W (R253). -/
def execAddiW (rd rj : Reg) (si12 : BitVec 12) (s : State) : Result :=
  putResult rd (gprGet rj s + simm12 si12) s

/-- LU12I.W (R254). -/
def execLu12iW (rd : Reg) (si20 : BitVec 20) (s : State) : Result :=
  putResult rd (upper20 si20) s

/-- SLT: signed less than (R255). -/
def execSlt (rd rj rk : Reg) (s : State) : Result :=
  putResult rd (boolWord ((gprGet rj s).slt (gprGet rk s))) s

/-- SLTU: unsigned less than (R256). -/
def execSltu (rd rj rk : Reg) (s : State) : Result :=
  putResult rd (boolWord ((gprGet rj s).ult (gprGet rk s))) s

/-- SLTI: signed less than the sign-extended immediate (R257). -/
def execSlti (rd rj : Reg) (si12 : BitVec 12) (s : State) : Result :=
  putResult rd (boolWord ((gprGet rj s).slt (simm12 si12))) s

/-- SLTUI: unsigned less than the sign-extended immediate (R258). -/
def execSltui (rd rj : Reg) (si12 : BitVec 12) (s : State) : Result :=
  putResult rd (boolWord ((gprGet rj s).ult (simm12 si12))) s

/-- PCADDU12I (R259). -/
def execPcaddu12i (rd : Reg) (si20 : BitVec 20) (s : State) : Result :=
  putResult rd (s.pc + upper20 si20) s

/-- AND (R260). -/
def execAnd (rd rj rk : Reg) (s : State) : Result :=
  putResult rd (gprGet rj s &&& gprGet rk s) s

/-- OR (R261). -/
def execOr (rd rj rk : Reg) (s : State) : Result :=
  putResult rd (gprGet rj s ||| gprGet rk s) s

/-- NOR (R262). -/
def execNor (rd rj rk : Reg) (s : State) : Result :=
  putResult rd (~~~(gprGet rj s ||| gprGet rk s)) s

/-- XOR (R263). -/
def execXor (rd rj rk : Reg) (s : State) : Result :=
  putResult rd (gprGet rj s ^^^ gprGet rk s) s

/-- ANDI: with r0, r0, 0 it is NOP (R264). -/
def execAndi (rd rj : Reg) (ui12 : BitVec 12) (s : State) : Result :=
  putResult rd (gprGet rj s &&& uimm12 ui12) s

/-- ORI (R265). -/
def execOri (rd rj : Reg) (ui12 : BitVec 12) (s : State) : Result :=
  putResult rd (gprGet rj s ||| uimm12 ui12) s

/-- XORI (R266). -/
def execXori (rd rj : Reg) (ui12 : BitVec 12) (s : State) : Result :=
  putResult rd (gprGet rj s ^^^ uimm12 ui12) s

/-- MUL.W: bits 31:0 of the product (R268). -/
def execMulW (rd rj rk : Reg) (s : State) : Result :=
  putResult rd (gprGet rj s * gprGet rk s) s

/-- MULH.W: bits 63:32 of the signed product (R269). -/
def execMulhW (rd rj rk : Reg) (s : State) : Result :=
  putResult rd (BitVec.ofInt 32 ((gprGet rj s).toInt * (gprGet rk s).toInt / 4294967296)) s

/-- MULH.WU: bits 63:32 of the unsigned product (R270). -/
def execMulhWu (rd rj rk : Reg) (s : State) : Result :=
  putResult rd (BitVec.ofNat 32 ((gprGet rj s).toNat * (gprGet rk s).toNat / 4294967296)) s

/-- DIV.W (R271). -/
def execDivW (rd rj rk : Reg) (s : State) : Result :=
  putResult rd (quotientSigned (gprGet rj s) (gprGet rk s) s) s

/-- MOD.W (R272). -/
def execModW (rd rj rk : Reg) (s : State) : Result :=
  putResult rd (remainderSigned (gprGet rj s) (gprGet rk s) s) s

/-- DIV.WU (R273). -/
def execDivWu (rd rj rk : Reg) (s : State) : Result :=
  putResult rd (quotientUnsigned (gprGet rj s) (gprGet rk s) s) s

/-- MOD.WU (R274). -/
def execModWu (rd rj rk : Reg) (s : State) : Result :=
  putResult rd (remainderUnsigned (gprGet rj s) (gprGet rk s) s) s

/-- SLL.W: shift left by the low five bits of rk (R275). -/
def execSllW (rd rj rk : Reg) (s : State) : Result :=
  putResult rd (gprGet rj s <<< shiftAmount (gprGet rk s)) s

/-- SRL.W: shift right with zeros (R276). -/
def execSrlW (rd rj rk : Reg) (s : State) : Result :=
  putResult rd (gprGet rj s >>> shiftAmount (gprGet rk s)) s

/-- SRA.W: shift right with copies of the sign (R277). -/
def execSraW (rd rj rk : Reg) (s : State) : Result :=
  putResult rd ((gprGet rj s).sshiftRight (shiftAmount (gprGet rk s))) s

/-- SLLI.W (R278). -/
def execSlliW (rd rj : Reg) (ui5 : BitVec 5) (s : State) : Result :=
  putResult rd (gprGet rj s <<< ui5.toNat) s

/-- SRLI.W (R279). -/
def execSrliW (rd rj : Reg) (ui5 : BitVec 5) (s : State) : Result :=
  putResult rd (gprGet rj s >>> ui5.toNat) s

/-- SRAI.W (R280). -/
def execSraiW (rd rj : Reg) (ui5 : BitVec 5) (s : State) : Result :=
  putResult rd ((gprGet rj s).sshiftRight ui5.toNat) s

end Sys2Proof.Machine
end

