-- ==== Sys2Proof/Machine/LoadStore.lean ====
section
/-! DEFINITION. Loads, stores, prefetch, the reservation pair and the barriers (42_memory_access.md R320 to R343). -/

namespace Sys2Proof.Machine

/-- A load into a general register: `extend` makes the word from the bytes read (R320). -/
def loadInto (n : Nat) (extend : DWord → Word) (rd : Reg) (va : Word) (s : State) : Result :=
  loadThen n va s fun v => gprSet rd (extend v)

/-- A byte, sign-extended. -/
def signByte (v : DWord) : Word := (v.setWidth 8).signExtend 32
/-- A halfword, sign-extended. -/
def signHalf (v : DWord) : Word := (v.setWidth 16).signExtend 32
/-- A byte, zero-extended. -/
def zeroByte (v : DWord) : Word := (v.setWidth 8).setWidth 32
/-- A halfword, zero-extended. -/
def zeroHalf (v : DWord) : Word := (v.setWidth 16).setWidth 32
/-- A word. -/
def wholeWord (v : DWord) : Word := v.setWidth 32

/-- LD.B (R321). -/
def execLdB (rd rj : Reg) (si12 : BitVec 12) (s : State) : Result :=
  loadInto 1 signByte rd (address12 rj si12 s) s

/-- LD.H (R322). -/
def execLdH (rd rj : Reg) (si12 : BitVec 12) (s : State) : Result :=
  loadInto 2 signHalf rd (address12 rj si12 s) s

/-- LD.W (R323). -/
def execLdW (rd rj : Reg) (si12 : BitVec 12) (s : State) : Result :=
  loadInto 4 wholeWord rd (address12 rj si12 s) s

/-- LD.BU (R324). -/
def execLdBu (rd rj : Reg) (si12 : BitVec 12) (s : State) : Result :=
  loadInto 1 zeroByte rd (address12 rj si12 s) s

/-- LD.HU (R325). -/
def execLdHu (rd rj : Reg) (si12 : BitVec 12) (s : State) : Result :=
  loadInto 2 zeroHalf rd (address12 rj si12 s) s

/-- ST.B: bytes of rd from the lowest up (R326). -/
def execStB (rd rj : Reg) (si12 : BitVec 12) (s : State) : Result :=
  storeThen 1 ((gprGet rd s).setWidth 64) (address12 rj si12 s) s

/-- ST.H: bytes of rd from the lowest up (R327). -/
def execStH (rd rj : Reg) (si12 : BitVec 12) (s : State) : Result :=
  storeThen 2 ((gprGet rd s).setWidth 64) (address12 rj si12 s) s

/-- ST.W: bytes of rd from the lowest up (R328). -/
def execStW (rd rj : Reg) (si12 : BitVec 12) (s : State) : Result :=
  storeThen 4 ((gprGet rd s).setWidth 64) (address12 rj si12 s) s

/-- PRELD: no architectural effect for any hint; it raises nothing and accesses no device (R329; log 33). -/
def execPreld (_hint : BitVec 5) (_rj : Reg) (_si12 : BitVec 12) (s : State) : Result :=
  .next (advance s)

/-- LL.W (R335): load a word, set LLbit, record the physical address (D42; log 43). -/
def execLlW (rd rj : Reg) (si14 : BitVec 14) (s : State) : Result :=
  ((resolveReserved .load (address14 rj si14 s) s).bind fun t => placed t s).finish s fun p =>
    .next (advance (gprSet rd (wholeWord (loadValue p 4 s))
      { afterLoad p 4 s with llbit := true, lladdr := p.target.pa }))

/-- Whether SC.W's address fits the one LL.W recorded, under the implementation's check (R336, D6; log 18, 66). -/
def scAddressFits (pa : Nat) (s : State) : Bool :=
  match s.cfg.scAddrCheck with
  | .unchecked => true
  | .sameWord => pa / 4 == s.lladdr / 4
  | .sameLine => sameLine s.cfg.dcache pa s.lladdr

/-- Whether SC.W stores. -/
def scSucceeds (pa : Nat) (s : State) : Bool := s.llbit && scAddressFits pa s

/-- LLbit after SC.W, under the implementation's choice (R336, D6; log 18). -/
def scLLbit (s : State) : Bool := s.llbit && !s.cfg.scClearsLLbit

/-- SC.W (R336): alignment and translation are checked whatever LLbit is; with LLbit it stores rd and returns 1 in it, else it
makes no access and returns 0. -/
def execScW (rd rj : Reg) (si14 : BitVec 14) (s : State) : Result :=
  (resolveReserved .store (address14 rj si14 s) s).finish s fun t =>
    if scSucceeds t.pa s then
      ((placed t s).bind fun p => storeAt p 4 ((gprGet rd s).setWidth 64) s).finish s fun s' =>
        .next (advance (gprSet rd 1 { s' with llbit := scLLbit s }))
    else .next (advance (gprSet rd 0 { s with llbit := scLLbit s }))

/-- DBAR: this core performs its accesses one after another, so every hint is a no-operation (R342, R175; log 19). -/
def execDbar (_hint : BitVec 15) (s : State) : Result :=
  .next (advance s)

/-- IBAR, every hint as 0 (R343, R176, D38; log 44): later fetches see every store whose cache lines were written back and
invalidated, that never went through a cache, or that another agent made (R186). -/
def execIbar (_hint : BitVec 15) (s : State) : Result :=
  .next (advance { s with stale := s.stale.filter fun w => w.stage ≠ .invalidated })

end Sys2Proof.Machine
end

