-- ==== Sys2Proof/Machine/Misc.lean ====
section
/-! DEFINITION. System call, breakpoint and the counter reads (43_misc.md R350 to R356). -/

namespace Sys2Proof.Machine

/-- SYSCALL: takes SYS at either level; the code is recorded nowhere (R350, R553, D43; log 47). -/
def execSyscall (_code : BitVec 15) (s : State) : Result :=
  trap .SYS s

/-- BREAK: takes BRK at either level; the code is recorded nowhere (R351, R554, D43; log 47). -/
def execBrk (_code : BitVec 15) (s : State) : Result :=
  trap .BRK s

/-- RDCNTVL.W: bits 31:0 of the Stable Counter (R352). -/
def execRdcntvlW (rd : Reg) (s : State) : Result :=
  .next (advance (gprSet rd (s.counter.extractLsb' 0 32) s))

/-- RDCNTVH.W: bits 63:32 of the Stable Counter (R353). -/
def execRdcntvhW (rd : Reg) (s : State) : Result :=
  .next (advance (gprSet rd (s.counter.extractLsb' 32 32) s))

/-- RDCNTID: the Counter ID, at either level (R354). -/
def execRdcntid (rj : Reg) (s : State) : Result :=
  .next (advance (gprSet rj s.csr.tid s))

end Sys2Proof.Machine
end

