-- ==== Sys2Proof/Machine/Csr.lean ====
section
/-! DEFINITION. Software access to the control and status registers (10_state.md R65 to R104, 46_privileged.md R481, R501). -/

namespace Sys2Proof.Machine

/-- A CSR number with no register behind it here: a window the implementation lacks (log 65), or one the parameters list as absent
(R68). Undefined numbers, and CTAG (R104, D25; log 35), have no storage and no writable bit. -/
def csrAbsent (n : BitVec 14) (s : State) : Bool :=
  s.cfg.absentCsrs.contains n
    || (n == 0x180 && decide (s.cfg.dmwCount < 1)) || (n == 0x181 && decide (s.cfg.dmwCount < 2))

/-- The software-writable bits W of a register (R69 and the register's own rule); none for a number with no storage. -/
def csrMask (n : BitVec 14) (s : State) : Word :=
  match n with
  | 0x0 => 0x000001FF                                                -- CRMD, R71
  | 0x1 => 0x00000007                                                -- PRMD, R72
  | 0x2 => if s.cfg.fpLevel = .none then 0 else 0x00000001           -- EUEN, R81, D5
  | 0x4 => 0x00001BFF                                                -- ECFG, R73
  | 0x5 => 0x00000003                                                -- ESTAT, R74
  | 0x6 => 0xFFFFFFFF                                                -- ERA, R75
  | 0x7 => 0xFFFFFFFF                                                -- BADV, R76
  | 0xC => 0xFFFFFFC0                                                -- EENTRY, R77
  | 0x10 => lowMask s.cfg.tlbidxN ||| 0x3F000000 ||| 0x80000000      -- TLBIDX, R90
  | 0x11 => 0xFFFFE000                                               -- TLBEHI, R92
  | 0x12 => 0x0000007F ||| (0xFFFFFF00 &&& lowMask (s.cfg.palen - 4)) -- TLBELO0, R93
  | 0x13 => 0x0000007F ||| (0xFFFFFF00 &&& lowMask (s.cfg.palen - 4)) -- TLBELO1, R93
  | 0x18 => 0x000003FF                                               -- ASID, R94
  | 0x19 => 0xFFFFF000                                               -- PGDL, R95
  | 0x1A => 0xFFFFF000                                               -- PGDH, R95
  | 0x30 => 0xFFFFFFFF                                               -- SAVE0, R79
  | 0x31 => 0xFFFFFFFF                                               -- SAVE1, R79
  | 0x32 => 0xFFFFFFFF                                               -- SAVE2, R79
  | 0x33 => 0xFFFFFFFF                                               -- SAVE3, R79
  | 0x40 => 0xFFFFFFFF                                               -- TID, R100
  | 0x41 => lowMask s.cfg.timerN                                     -- TCFG, R101
  | 0x60 => 0x00000004                                               -- LLBCTL, R80
  | 0x88 => 0xFFFFFFC0                                               -- TLBRENTRY, R98
  | 0x180 => 0xEE000039                                              -- DMW0, R99
  | 0x181 => 0xEE000039                                              -- DMW1, R99
  | _ => 0

/-- The stored bits of a register. -/
def csrStored (n : BitVec 14) (c : Csr) : Word :=
  match n with
  | 0x0 => c.crmd
  | 0x1 => c.prmd
  | 0x2 => c.euen
  | 0x4 => c.ecfg
  | 0x5 => c.estat
  | 0x6 => c.era
  | 0x7 => c.badv
  | 0xC => c.eentry
  | 0x10 => c.tlbidx
  | 0x11 => c.tlbehi
  | 0x12 => c.tlbelo0
  | 0x13 => c.tlbelo1
  | 0x18 => c.asid
  | 0x19 => c.pgdl
  | 0x1A => c.pgdh
  | 0x30 => c.save0
  | 0x31 => c.save1
  | 0x32 => c.save2
  | 0x33 => c.save3
  | 0x40 => c.tid
  | 0x41 => c.tcfg
  | 0x60 => c.llbctl
  | 0x88 => c.tlbrentry
  | 0x180 => c.dmw0
  | 0x181 => c.dmw1
  | _ => 0

/-- Replace the stored bits of a register. -/
def csrStore (n : BitVec 14) (v : Word) (c : Csr) : Csr :=
  match n with
  | 0x0 => { c with crmd := v }
  | 0x1 => { c with prmd := v }
  | 0x2 => { c with euen := v }
  | 0x4 => { c with ecfg := v }
  | 0x5 => { c with estat := v }
  | 0x6 => { c with era := v }
  | 0x7 => { c with badv := v }
  | 0xC => { c with eentry := v }
  | 0x10 => { c with tlbidx := v }
  | 0x11 => { c with tlbehi := v }
  | 0x12 => { c with tlbelo0 := v }
  | 0x13 => { c with tlbelo1 := v }
  | 0x18 => { c with asid := v }
  | 0x19 => { c with pgdl := v }
  | 0x1A => { c with pgdh := v }
  | 0x30 => { c with save0 := v }
  | 0x31 => { c with save1 := v }
  | 0x32 => { c with save2 := v }
  | 0x33 => { c with save3 := v }
  | 0x40 => { c with tid := v }
  | 0x41 => { c with tcfg := v }
  | 0x60 => { c with llbctl := v }
  | 0x88 => { c with tlbrentry := v }
  | 0x180 => { c with dmw0 := v }
  | 0x181 => { c with dmw1 := v }
  | _ => c

/-- The timer counts: enabled and not stopped (R582). -/
def timerCounting (s : State) : Bool := s.csr.tcfg.getLsbD 0 && s.timerRun

/-- TVAL: the timer's value; a free value while it does not count (R102, R581, R582, D12; log 23). -/
def timerRead (s : State) : Word :=
  if timerCounting s then s.timerVal else Config.freeWord s.draws &&& lowMask s.cfg.timerN

/-- The software-read value of a CSR (R481): stored bits, and the fields hardware composes. -/
def csrRead (n : BitVec 14) (s : State) : Word :=
  if csrAbsent n s then 0
  else
    match n with
    | 0x18 => s.csr.asid ||| 0x000A0000                                            -- ASIDBITS = 10, R94
    | 0x1B => if s.csr.badv.getLsbD 31 then s.csr.pgdh else s.csr.pgdl              -- PGD, R96
    | 0x20 => s.cfg.coreId.setWidth 32                                             -- CPUID, R78
    | 0x42 => timerRead s                                                          -- TVAL, R102
    | 0x60 => s.csr.llbctl ||| (BitVec.ofBool s.llbit).setWidth 32                 -- ROLLB, R80
    | _ => csrStored n s.csr

/-- A TCFG write (re)configures the timer: with En it loads InitVal over two zeros and runs, without it stops (R581, R501 (d),
D12; log 23). -/
def configureTimer (s : State) : State :=
  { s with
    timerVal := if s.csr.tcfg.getLsbD 0 then s.csr.tcfg &&& 0xFFFFFFFC else s.timerVal
    timerRun := s.csr.tcfg.getLsbD 0 }

/-- The side effects of a software write of `v` under bit mask `m` (R501). -/
def csrEffect (n : BitVec 14) (v m : Word) (s : State) : State :=
  match n with
  | 0x41 => configureTimer s
  | 0x44 => { s with csr := { s.csr with
      estat := if (v &&& m).getLsbD 0 then setBits s.csr.estat 0x800 0 else s.csr.estat } }
  | 0x60 => { s with llbit := s.llbit && !(v &&& m).getLsbD 1 }
  | _ => s

/-- The masked write of R69 and its side effects. -/
def csrWrite (n : BitVec 14) (v m : Word) (s : State) : State :=
  if csrAbsent n s then s
  else csrEffect n v m
    { s with csr := csrStore n (setBits (csrStored n s.csr) (csrMask n s &&& m) v) s.csr }

end Sys2Proof.Machine
end

