-- ==== Sys2Proof/Machine/Tlb.lean ====
section
/-! DEFINITION. The TLB as its maintenance instructions see it (46_privileged.md R490 to R497). -/

namespace Sys2Proof.Machine

/-- TLBIDX.Index (R90). -/
def tlbIndex (s : State) : Nat := (s.csr.tlbidx &&& lowMask s.cfg.tlbidxN).toNat

/-- A page from the format of TLBELO0 and TLBELO1 (R93). -/
def pageOfElo (w : Word) : TlbPage where
  v := w.getLsbD 0
  d := w.getLsbD 1
  plv := w.extractLsb' 2 2
  mat := w.extractLsb' 4 2
  ppn := w.extractLsb' 8 24

/-- A page and G in the format of TLBELO0 and TLBELO1 (R93). -/
def eloOfPage (p : TlbPage) (g : Bool) : Word :=
  p.ppn ++ (0 : BitVec 1) ++ BitVec.ofBool g ++ p.mat ++ p.plv ++ BitVec.ofBool p.d ++ BitVec.ofBool p.v

/-- `NewEntry` (R495): E is forced inside a TLB refill, else the complement of TLBIDX.NE. -/
def newEntry (s : State) : TlbEntry where
  e := decide (lastEcode s = 0x3F) || !s.csr.tlbidx.getLsbD 31
  asid := currentAsid s
  g := s.csr.tlbelo0.getLsbD 6 && s.csr.tlbelo1.getLsbD 6
  ps := s.csr.tlbidx.extractLsb' 24 6
  vppn := s.csr.tlbehi.extractLsb' 13 19
  page0 := pageOfElo s.csr.tlbelo0
  page1 := pageOfElo s.csr.tlbelo1

/-- The page sizes LA32R has: 4 KB and 4 MB (R57, R161). -/
def supportedPage (ps : BitVec 6) : Bool := ps == 12 || ps == 21

/-- Write the new entry at an index; a non-empty one of another page size is refused (R495, U7; log 30). -/
def tlbWriteAt (i : Nat) (s : State) : Result :=
  if (newEntry s).e && !supportedPage (newEntry s).ps then .refused .unsupportedPageSize
  else .next (advance { s with tlb := s.tlb.set i (newEntry s) })

/-- The indices of the entries that match TLBEHI.VPPN (R490, D39; log 45). -/
def searchHits (s : State) : List Nat :=
  (List.range s.tlb.length).filter fun i =>
    tlbMatch (s.tlb.getD i TlbEntry.zero) (currentAsid s) (s.csr.tlbehi &&& 0xFFFFE000)

/-- TLBIDX after a search (R490). -/
def searchedIndex (i : Nat) (s : State) : Word :=
  setBits s.csr.tlbidx (0x80000000 ||| lowMask s.cfg.tlbidxN) (BitVec.ofNat 32 i &&& lowMask s.cfg.tlbidxN)

/-- VPPN as TLBRD delivers it: the nine bits a 4 MB page ignores are free (R495, D44; log 32). -/
def readVppn (e : TlbEntry) (s : State) : BitVec 19 :=
  if e.ps = 21 then e.vppn.extractLsb' 9 10 ++ (Config.freeTlbBits s.draws).extractLsb' 18 9 else e.vppn

/-- A page as TLBRD delivers it: the nine PPN bits a 4 MB page ignores are free (R495, D44; log 32). -/
def readPage (e : TlbEntry) (p : TlbPage) (free : BitVec 9) : TlbPage :=
  if e.ps = 21 then { p with ppn := p.ppn.extractLsb' 9 15 ++ free } else p

/-- TLBRD of a non-empty entry (R491). -/
def readEntry (e : TlbEntry) (s : State) : Csr :=
  { s.csr with
    tlbehi := vppnAddress (readVppn e s)
    tlbelo0 := eloOfPage (readPage e e.page0 ((Config.freeTlbBits s.draws).extractLsb' 9 9)) e.g &&& csrMask 0x12 s
    tlbelo1 := eloOfPage (readPage e e.page1 ((Config.freeTlbBits s.draws).extractLsb' 0 9)) e.g &&& csrMask 0x13 s
    tlbidx := setBits s.csr.tlbidx 0xBF000000 (e.ps.setWidth 32 <<< 24)
    asid := e.asid.setWidth 32 }

/-- TLBRD of an empty entry: NE set, everything else cleared but Index (R491). -/
def readEmpty (s : State) : Csr :=
  { s.csr with
    tlbehi := 0
    tlbelo0 := 0
    tlbelo1 := 0
    tlbidx := setBits s.csr.tlbidx 0xBF000000 0x80000000
    asid := 0 }

/-- `Sel` of R496: the entries an INVTLB operation clears. -/
def invSelects (op : BitVec 5) (e : TlbEntry) (asid : BitVec 10) (va : Word) : Bool :=
  let here := samePagePair e.ps (vppnAddress e.vppn) va
  match op with
  | 0 => true
  | 1 => true
  | 2 => e.g
  | 3 => !e.g
  | 4 => !e.g && e.asid == asid
  | 5 => !e.g && e.asid == asid && here
  | 6 => (e.g || e.asid == asid) && here
  | _ => false

/-- Clearing an entry empties it (R494, D22; log 32). -/
def invalidate (op : BitVec 5) (asid : BitVec 10) (va : Word) (e : TlbEntry) : TlbEntry :=
  if invSelects op e asid va then { e with e := false } else e

end Sys2Proof.Machine
end

