-- ==== Sys2Proof/Machine/Privileged.lean ====
section
/-! DEFINITION. The privileged instructions (46_privileged.md R480 to R501). -/

namespace Sys2Proof.Machine

/-- The exchange of CSRWR and CSRXCHG: registers are read before any is written (R483, R484, D46; log 48). -/
def csrExchange (rd : Reg) (csr : BitVec 14) (m : Word) (s : State) : Result :=
  privileged s (.next (advance (gprSet rd (csrRead csr s) (csrWrite csr (gprGet rd s) m s))))

/-- CSRRD (R482). -/
def execCsrrd (rd : Reg) (csr : BitVec 14) (s : State) : Result :=
  privileged s (.next (advance (gprSet rd (csrRead csr s) s)))

/-- CSRWR (R483). -/
def execCsrwr (rd : Reg) (csr : BitVec 14) (s : State) : Result :=
  csrExchange rd csr 0xFFFFFFFF s

/-- CSRXCHG: rj is the mask (R484). -/
def execCsrxchg (rd rj : Reg) (csr : BitVec 14) (s : State) : Result :=
  csrExchange rd csr (gprGet rj s) s

/-- The Hit class of CACOP: code[4:3] = 2 (R486). -/
def hitClass (code : BitVec 5) : Bool := code.extractLsb' 3 2 == 2

/-- The codes the manual gives a function: code[4:3] other than 3 on one of the three caches (R486). -/
def namedCode (code : BitVec 5) : Bool := code.extractLsb' 3 2 != 3 && (code.extractLsb' 0 3).toNat < 3

/-- What a Hit CACOP does to the older words a fetch may see in its cache line (R185, R489; log 33, 34): the data cache's form
writes stored ones back, the instruction cache's form then invalidates them. Each takes the line of its own cache. -/
def maintain (code : BitVec 5) (pa : Nat) (s : State) : State :=
  { s with stale := s.stale.map fun w =>
      if code = 0x11 ∧ sameLine s.cfg.dcache w.addr pa ∧ w.stage = .stored then { w with stage := .writtenBack }
      else if code = 0x10 ∧ sameLine s.cfg.icache w.addr pa ∧ w.stage = .writtenBack then { w with stage := .invalidated }
      else w }

/-- The operation of a CACOP after its privilege check (R486, R487, R489; log 33, 56): an index form changes no architectural
state; a Hit form translates its address as a load and raises what that raises, with no alignment check. DESIGN CHOICE, safe
(log 67): where the address translates to the uncached type the form maintains nothing. -/
def cacheOperation (code : BitVec 5) (va : Word) (s : State) : Result :=
  if namedCode code then
    if hitClass code then
      ((translate .load va s).bind typed).finish s fun t =>
        .next (advance (if t.mat = 1 then maintain code t.pa s else s))
    else .next (advance s)
  else .refused .cacopUnnamedCode

/-- CACOP (R485 to R489): privileged but for the Hit class. -/
def execCacop (code : BitVec 5) (rj : Reg) (si12 : BitVec 12) (s : State) : Result :=
  if hitClass code then cacheOperation code (address12 rj si12 s) s
  else privileged s (cacheOperation code (address12 rj si12 s) s)

/-- TLBSRCH (R490). -/
def execTlbsrch (s : State) : Result :=
  privileged s
    (match searchHits s with
    | [] => .next (advance { s with csr := { s.csr with tlbidx := setBits s.csr.tlbidx 0x80000000 0x80000000 } })
    | [i] => .next (advance { s with csr := { s.csr with tlbidx := searchedIndex i s } })
    | _ => .refused .multipleTlbHit)

/-- TLBRD (R491): an index outside the TLB is refused (R497). -/
def execTlbrd (s : State) : Result :=
  privileged s
    (match s.tlb[tlbIndex s]? with
    | some e => .next (advance { s with csr := if e.e then readEntry e s else readEmpty s })
    | none => .refused .tlbIndexOutOfRange)

/-- TLBWR (R492): an index outside the TLB is refused (R497). -/
def execTlbwr (s : State) : Result :=
  privileged s
    (if tlbIndex s < s.tlb.length then tlbWriteAt (tlbIndex s) s else .refused .tlbIndexOutOfRange)

/-- TLBFILL: hardware picks the entry (R493, D34; log 40). -/
def execTlbfill (s : State) : Result :=
  privileged s (tlbWriteAt (Config.freeTlbIndex s.draws % s.tlb.length) s)

/-- INVTLB (R494, R496): an op above 6 raises INE at either level; bits of rj above an ASID are refused where it is used. -/
def execInvtlb (op : BitVec 5) (rj rk : Reg) (s : State) : Result :=
  if 6 < op.toNat then trap .INE s
  else privileged s
    (if 4 ≤ op.toNat ∧ 1024 ≤ (gprGet rj s).toNat then .refused .invtlbOperandBits
     else .next (advance { s with tlb := s.tlb.map (invalidate op ((gprGet rj s).setWidth 10) (gprGet rk s)) }))

/-- ERTN (R498). -/
def execErtn (s : State) : Result :=
  privileged s (.next (exceptionReturn s))

/-- IDLE: the core waits, unless what would wake it is already there; the level means nothing (R500, D11; log 22). -/
def execIdle (_level : BitVec 15) (s : State) : Result :=
  privileged s (.next { advance s with waiting := pendingVector s == 0 })

end Sys2Proof.Machine
end

