-- ==== Sys2Proof/Syntax.lean ====
section
/-! DEFINITION. The instructions of LA32R: one constructor for each row of spec/opcode_table.json, in its order, with the
operands in the order of the assembler syntax (30_encoding.md R204, R216, R220). An operand is the field of the encoding:
an immediate is not yet scaled or extended (R205 to R215). -/

namespace Sys2Proof

inductive Instr where
  -- counter reads (43_misc.md)
  | rdcntid (rj : Reg)
  | rdcntvlW (rd : Reg)
  | rdcntvhW (rd : Reg)
  -- integer, three registers (40_integer.md)
  | addW (rd rj rk : Reg)
  | subW (rd rj rk : Reg)
  | slt (rd rj rk : Reg)
  | sltu (rd rj rk : Reg)
  | nor (rd rj rk : Reg)
  | and (rd rj rk : Reg)
  | or (rd rj rk : Reg)
  | xor (rd rj rk : Reg)
  | sllW (rd rj rk : Reg)
  | srlW (rd rj rk : Reg)
  | sraW (rd rj rk : Reg)
  | mulW (rd rj rk : Reg)
  | mulhW (rd rj rk : Reg)
  | mulhWu (rd rj rk : Reg)
  | divW (rd rj rk : Reg)
  | modW (rd rj rk : Reg)
  | divWu (rd rj rk : Reg)
  | modWu (rd rj rk : Reg)
  -- traps (43_misc.md)
  | brk (code : BitVec 15)
  | syscall (code : BitVec 15)
  -- shifts by an immediate (40_integer.md)
  | slliW (rd rj : Reg) (ui5 : BitVec 5)
  | srliW (rd rj : Reg) (ui5 : BitVec 5)
  | sraiW (rd rj : Reg) (ui5 : BitVec 5)
  -- floating-point arithmetic, two operands (44_float_arith.md)
  | faddS (fd fj fk : FReg)
  | faddD (fd fj fk : FReg)
  | fsubS (fd fj fk : FReg)
  | fsubD (fd fj fk : FReg)
  | fmulS (fd fj fk : FReg)
  | fmulD (fd fj fk : FReg)
  | fdivS (fd fj fk : FReg)
  | fdivD (fd fj fk : FReg)
  | fmaxS (fd fj fk : FReg)
  | fmaxD (fd fj fk : FReg)
  | fminS (fd fj fk : FReg)
  | fminD (fd fj fk : FReg)
  | fmaxaS (fd fj fk : FReg)
  | fmaxaD (fd fj fk : FReg)
  | fminaS (fd fj fk : FReg)
  | fminaD (fd fj fk : FReg)
  | fcopysignS (fd fj fk : FReg)
  | fcopysignD (fd fj fk : FReg)
  -- floating-point arithmetic, one operand (44_float_arith.md)
  | fabsS (fd fj : FReg)
  | fabsD (fd fj : FReg)
  | fnegS (fd fj : FReg)
  | fnegD (fd fj : FReg)
  | fclassS (fd fj : FReg)
  | fclassD (fd fj : FReg)
  | fsqrtS (fd fj : FReg)
  | fsqrtD (fd fj : FReg)
  | frecipS (fd fj : FReg)
  | frecipD (fd fj : FReg)
  | frsqrtS (fd fj : FReg)
  | frsqrtD (fd fj : FReg)
  -- floating-point moves (45_float_conv_move.md)
  | fmovS (fd fj : FReg)
  | fmovD (fd fj : FReg)
  | movgr2frW (fd : FReg) (rj : Reg)
  | movgr2frhW (fd : FReg) (rj : Reg)
  | movfr2grS (rd : Reg) (fj : FReg)
  | movfrh2grS (rd : Reg) (fj : FReg)
  | movgr2fcsr (fcsr : BitVec 5) (rj : Reg)
  | movfcsr2gr (rd : Reg) (fcsr : BitVec 5)
  | movfr2cf (cd : CFlag) (fj : FReg)
  | movcf2fr (fd : FReg) (cj : CFlag)
  | movgr2cf (cd : CFlag) (rj : Reg)
  | movcf2gr (rd : Reg) (cj : CFlag)
  -- floating-point conversions (45_float_conv_move.md)
  | fcvtSD (fd fj : FReg)
  | fcvtDS (fd fj : FReg)
  | ftintrmWS (fd fj : FReg)
  | ftintrmWD (fd fj : FReg)
  | ftintrpWS (fd fj : FReg)
  | ftintrpWD (fd fj : FReg)
  | ftintrzWS (fd fj : FReg)
  | ftintrzWD (fd fj : FReg)
  | ftintrneWS (fd fj : FReg)
  | ftintrneWD (fd fj : FReg)
  | ftintWS (fd fj : FReg)
  | ftintWD (fd fj : FReg)
  | ffintSW (fd fj : FReg)
  | ffintDW (fd fj : FReg)
  -- integer, register and immediate (40_integer.md)
  | slti (rd rj : Reg) (si12 : BitVec 12)
  | sltui (rd rj : Reg) (si12 : BitVec 12)
  | addiW (rd rj : Reg) (si12 : BitVec 12)
  | andi (rd rj : Reg) (ui12 : BitVec 12)
  | ori (rd rj : Reg) (ui12 : BitVec 12)
  | xori (rd rj : Reg) (ui12 : BitVec 12)
  -- privileged (46_privileged.md)
  | csrrd (rd : Reg) (csr : BitVec 14)
  | csrwr (rd : Reg) (csr : BitVec 14)
  | csrxchg (rd rj : Reg) (csr : BitVec 14)
  | cacop (code : BitVec 5) (rj : Reg) (si12 : BitVec 12)
  | tlbsrch
  | tlbrd
  | tlbwr
  | tlbfill
  | ertn
  | idle (level : BitVec 15)
  | invtlb (op : BitVec 5) (rj rk : Reg)
  -- fused multiply and add (44_float_arith.md)
  | fmaddS (fd fj fk fa : FReg)
  | fmaddD (fd fj fk fa : FReg)
  | fmsubS (fd fj fk fa : FReg)
  | fmsubD (fd fj fk fa : FReg)
  | fnmaddS (fd fj fk fa : FReg)
  | fnmaddD (fd fj fk fa : FReg)
  | fnmsubS (fd fj fk fa : FReg)
  | fnmsubD (fd fj fk fa : FReg)
  -- floating-point comparisons (44_float_arith.md R400, R401, R416)
  | fcmpCafS (cd : CFlag) (fj fk : FReg)
  | fcmpSafS (cd : CFlag) (fj fk : FReg)
  | fcmpCltS (cd : CFlag) (fj fk : FReg)
  | fcmpSltS (cd : CFlag) (fj fk : FReg)
  | fcmpCeqS (cd : CFlag) (fj fk : FReg)
  | fcmpSeqS (cd : CFlag) (fj fk : FReg)
  | fcmpCleS (cd : CFlag) (fj fk : FReg)
  | fcmpSleS (cd : CFlag) (fj fk : FReg)
  | fcmpCunS (cd : CFlag) (fj fk : FReg)
  | fcmpSunS (cd : CFlag) (fj fk : FReg)
  | fcmpCultS (cd : CFlag) (fj fk : FReg)
  | fcmpSultS (cd : CFlag) (fj fk : FReg)
  | fcmpCueqS (cd : CFlag) (fj fk : FReg)
  | fcmpSueqS (cd : CFlag) (fj fk : FReg)
  | fcmpCuleS (cd : CFlag) (fj fk : FReg)
  | fcmpSuleS (cd : CFlag) (fj fk : FReg)
  | fcmpCneS (cd : CFlag) (fj fk : FReg)
  | fcmpSneS (cd : CFlag) (fj fk : FReg)
  | fcmpCorS (cd : CFlag) (fj fk : FReg)
  | fcmpSorS (cd : CFlag) (fj fk : FReg)
  | fcmpCuneS (cd : CFlag) (fj fk : FReg)
  | fcmpSuneS (cd : CFlag) (fj fk : FReg)
  | fcmpCafD (cd : CFlag) (fj fk : FReg)
  | fcmpSafD (cd : CFlag) (fj fk : FReg)
  | fcmpCltD (cd : CFlag) (fj fk : FReg)
  | fcmpSltD (cd : CFlag) (fj fk : FReg)
  | fcmpCeqD (cd : CFlag) (fj fk : FReg)
  | fcmpSeqD (cd : CFlag) (fj fk : FReg)
  | fcmpCleD (cd : CFlag) (fj fk : FReg)
  | fcmpSleD (cd : CFlag) (fj fk : FReg)
  | fcmpCunD (cd : CFlag) (fj fk : FReg)
  | fcmpSunD (cd : CFlag) (fj fk : FReg)
  | fcmpCultD (cd : CFlag) (fj fk : FReg)
  | fcmpSultD (cd : CFlag) (fj fk : FReg)
  | fcmpCueqD (cd : CFlag) (fj fk : FReg)
  | fcmpSueqD (cd : CFlag) (fj fk : FReg)
  | fcmpCuleD (cd : CFlag) (fj fk : FReg)
  | fcmpSuleD (cd : CFlag) (fj fk : FReg)
  | fcmpCneD (cd : CFlag) (fj fk : FReg)
  | fcmpSneD (cd : CFlag) (fj fk : FReg)
  | fcmpCorD (cd : CFlag) (fj fk : FReg)
  | fcmpSorD (cd : CFlag) (fj fk : FReg)
  | fcmpCuneD (cd : CFlag) (fj fk : FReg)
  | fcmpSuneD (cd : CFlag) (fj fk : FReg)
  -- floating-point select (45_float_conv_move.md)
  | fsel (fd fj fk : FReg) (ca : CFlag)
  -- upper immediates (40_integer.md)
  | lu12iW (rd : Reg) (si20 : BitVec 20)
  | pcaddu12i (rd : Reg) (si20 : BitVec 20)
  -- reservation (42_memory_access.md)
  | llW (rd rj : Reg) (si14 : BitVec 14)
  | scW (rd rj : Reg) (si14 : BitVec 14)
  -- loads, stores, prefetch (42_memory_access.md, 45_float_conv_move.md)
  | ldB (rd rj : Reg) (si12 : BitVec 12)
  | ldH (rd rj : Reg) (si12 : BitVec 12)
  | ldW (rd rj : Reg) (si12 : BitVec 12)
  | stB (rd rj : Reg) (si12 : BitVec 12)
  | stH (rd rj : Reg) (si12 : BitVec 12)
  | stW (rd rj : Reg) (si12 : BitVec 12)
  | ldBu (rd rj : Reg) (si12 : BitVec 12)
  | ldHu (rd rj : Reg) (si12 : BitVec 12)
  | preld (hint : BitVec 5) (rj : Reg) (si12 : BitVec 12)
  | fldS (fd : FReg) (rj : Reg) (si12 : BitVec 12)
  | fstS (fd : FReg) (rj : Reg) (si12 : BitVec 12)
  | fldD (fd : FReg) (rj : Reg) (si12 : BitVec 12)
  | fstD (fd : FReg) (rj : Reg) (si12 : BitVec 12)
  -- barriers (42_memory_access.md)
  | dbar (hint : BitVec 15)
  | ibar (hint : BitVec 15)
  -- branches and jumps (41_branch.md, 45_float_conv_move.md)
  | bceqz (cj : CFlag) (offs : BitVec 21)
  | bcnez (cj : CFlag) (offs : BitVec 21)
  | jirl (rd rj : Reg) (offs : BitVec 16)
  | b (offs : BitVec 26)
  | bl (offs : BitVec 26)
  | beq (rj rd : Reg) (offs : BitVec 16)
  | bne (rj rd : Reg) (offs : BitVec 16)
  | blt (rj rd : Reg) (offs : BitVec 16)
  | bge (rj rd : Reg) (offs : BitVec 16)
  | bltu (rj rd : Reg) (offs : BitVec 16)
  | bgeu (rj rd : Reg) (offs : BitVec 16)
deriving DecidableEq, Repr

end Sys2Proof
end

