-- ==== Sys2Proof/Decode.lean ====
section
/-! DEFINITION. From bytes to instructions and back (30_encoding.md). Decoding is total: a word of no row of the opcode
table is `undefined` (it raises INE, R232, R565), an RDTIME word of the full architecture is `rdtime` (refused, R356). -/

namespace Sys2Proof

/-- Why bytes are no instruction. -/
inductive DecodeError where
  /-- The word matches no row of the opcode table, must-be-zero bits included (R232, R233). -/
  | undefined
  /-- An RDTIMEL.W or RDTIMEH.W word outside its three LA32R uses (R356). -/
  | rdtime
  /-- Fewer than four bytes. -/
  | truncated
deriving DecidableEq, Repr

/-! Fields (R201, R202, R205 to R215). -/

/-- instr[4:0]: rd, fd, and the five-bit code, hint or op. -/
def rdOf (w : Word) : BitVec 5 := w.extractLsb' 0 5
/-- instr[9:5]: rj, fj. -/
def rjOf (w : Word) : BitVec 5 := w.extractLsb' 5 5
/-- instr[14:10]: rk, fk, ui5. -/
def rkOf (w : Word) : BitVec 5 := w.extractLsb' 10 5
/-- instr[19:15]: fa, and cond of FCMP. -/
def raOf (w : Word) : BitVec 5 := w.extractLsb' 15 5
/-- instr[2:0]: cd. -/
def cdOf (w : Word) : CFlag := w.extractLsb' 0 3
/-- instr[7:5]: cj. -/
def cjOf (w : Word) : CFlag := w.extractLsb' 5 3
/-- instr[17:15]: ca. -/
def caOf (w : Word) : CFlag := w.extractLsb' 15 3
/-- instr[21:10]: si12, ui12. -/
def imm12Of (w : Word) : BitVec 12 := w.extractLsb' 10 12
/-- instr[23:10]: si14, csr_num. -/
def imm14Of (w : Word) : BitVec 14 := w.extractLsb' 10 14
/-- instr[24:5]: si20. -/
def imm20Of (w : Word) : BitVec 20 := w.extractLsb' 5 20
/-- instr[14:0]: code, level, hint. -/
def codeOf (w : Word) : BitVec 15 := w.extractLsb' 0 15
/-- instr[25:10]: offs16. -/
def offs16Of (w : Word) : BitVec 16 := w.extractLsb' 10 16
/-- instr[4:0] above instr[25:10]: offs21 (R210). -/
def offs21Of (w : Word) : BitVec 21 := w.extractLsb' 0 5 ++ w.extractLsb' 10 16
/-- instr[9:0] above instr[25:10]: offs26 (R211). -/
def offs26Of (w : Word) : BitVec 26 := w.extractLsb' 0 10 ++ w.extractLsb' 10 16

/-- The opcode, by its length (R202). -/
def op6 (w : Word) : BitVec 6 := w.extractLsb' 26 6
def op8 (w : Word) : BitVec 8 := w.extractLsb' 24 8
def op10 (w : Word) : BitVec 10 := w.extractLsb' 22 10
def op12 (w : Word) : BitVec 12 := w.extractLsb' 20 12
def op17 (w : Word) : BitVec 17 := w.extractLsb' 15 17
def op22 (w : Word) : BitVec 22 := w.extractLsb' 10 22

/-- instr[4:3] = 0, beside cd (R203 (d), (f)). -/
def lowSlotClear (w : Word) : Bool := w.extractLsb' 3 2 == 0
/-- instr[9:8] = 0, beside cj (R203 (d)). -/
def highSlotClear (w : Word) : Bool := w.extractLsb' 8 2 == 0

/-! Decoding, by opcode length. -/

/-- Words with instr[31:24] = 0 outside the counter reads: 3R, 2RI5 and code15 forms. -/
def decodeInt3R (w : Word) : Except DecodeError Instr :=
  match op17 w with
  | 0x00020 => .ok (.addW (rdOf w) (rjOf w) (rkOf w))
  | 0x00022 => .ok (.subW (rdOf w) (rjOf w) (rkOf w))
  | 0x00024 => .ok (.slt (rdOf w) (rjOf w) (rkOf w))
  | 0x00025 => .ok (.sltu (rdOf w) (rjOf w) (rkOf w))
  | 0x00028 => .ok (.nor (rdOf w) (rjOf w) (rkOf w))
  | 0x00029 => .ok (.and (rdOf w) (rjOf w) (rkOf w))
  | 0x0002a => .ok (.or (rdOf w) (rjOf w) (rkOf w))
  | 0x0002b => .ok (.xor (rdOf w) (rjOf w) (rkOf w))
  | 0x0002e => .ok (.sllW (rdOf w) (rjOf w) (rkOf w))
  | 0x0002f => .ok (.srlW (rdOf w) (rjOf w) (rkOf w))
  | 0x00030 => .ok (.sraW (rdOf w) (rjOf w) (rkOf w))
  | 0x00038 => .ok (.mulW (rdOf w) (rjOf w) (rkOf w))
  | 0x00039 => .ok (.mulhW (rdOf w) (rjOf w) (rkOf w))
  | 0x0003a => .ok (.mulhWu (rdOf w) (rjOf w) (rkOf w))
  | 0x00040 => .ok (.divW (rdOf w) (rjOf w) (rkOf w))
  | 0x00041 => .ok (.modW (rdOf w) (rjOf w) (rkOf w))
  | 0x00042 => .ok (.divWu (rdOf w) (rjOf w) (rkOf w))
  | 0x00043 => .ok (.modWu (rdOf w) (rjOf w) (rkOf w))
  | 0x00054 => .ok (.brk (codeOf w))
  | 0x00056 => .ok (.syscall (codeOf w))
  | 0x00081 => .ok (.slliW (rdOf w) (rjOf w) (rkOf w))
  | 0x00089 => .ok (.srliW (rdOf w) (rjOf w) (rkOf w))
  | 0x00091 => .ok (.sraiW (rdOf w) (rjOf w) (rkOf w))
  | _ => .error .undefined

/-- Words with instr[31:20] = 0x011 in 2R form: one-operand floating-point instructions, moves, conversions. -/
def decodeFloat2R (w : Word) : Except DecodeError Instr :=
  match op22 w with
  | 0x004501 => .ok (.fabsS (rdOf w) (rjOf w))
  | 0x004502 => .ok (.fabsD (rdOf w) (rjOf w))
  | 0x004505 => .ok (.fnegS (rdOf w) (rjOf w))
  | 0x004506 => .ok (.fnegD (rdOf w) (rjOf w))
  | 0x00450d => .ok (.fclassS (rdOf w) (rjOf w))
  | 0x00450e => .ok (.fclassD (rdOf w) (rjOf w))
  | 0x004511 => .ok (.fsqrtS (rdOf w) (rjOf w))
  | 0x004512 => .ok (.fsqrtD (rdOf w) (rjOf w))
  | 0x004515 => .ok (.frecipS (rdOf w) (rjOf w))
  | 0x004516 => .ok (.frecipD (rdOf w) (rjOf w))
  | 0x004519 => .ok (.frsqrtS (rdOf w) (rjOf w))
  | 0x00451a => .ok (.frsqrtD (rdOf w) (rjOf w))
  | 0x004525 => .ok (.fmovS (rdOf w) (rjOf w))
  | 0x004526 => .ok (.fmovD (rdOf w) (rjOf w))
  | 0x004529 => .ok (.movgr2frW (rdOf w) (rjOf w))
  | 0x00452b => .ok (.movgr2frhW (rdOf w) (rjOf w))
  | 0x00452d => .ok (.movfr2grS (rdOf w) (rjOf w))
  | 0x00452f => .ok (.movfrh2grS (rdOf w) (rjOf w))
  | 0x004530 => .ok (.movgr2fcsr (rdOf w) (rjOf w))
  | 0x004532 => .ok (.movfcsr2gr (rdOf w) (rjOf w))
  | 0x004534 => if lowSlotClear w then .ok (.movfr2cf (cdOf w) (rjOf w)) else .error .undefined
  | 0x004535 => if highSlotClear w then .ok (.movcf2fr (rdOf w) (cjOf w)) else .error .undefined
  | 0x004536 => if lowSlotClear w then .ok (.movgr2cf (cdOf w) (rjOf w)) else .error .undefined
  | 0x004537 => if highSlotClear w then .ok (.movcf2gr (rdOf w) (cjOf w)) else .error .undefined
  | 0x004646 => .ok (.fcvtSD (rdOf w) (rjOf w))
  | 0x004649 => .ok (.fcvtDS (rdOf w) (rjOf w))
  | 0x004681 => .ok (.ftintrmWS (rdOf w) (rjOf w))
  | 0x004682 => .ok (.ftintrmWD (rdOf w) (rjOf w))
  | 0x004691 => .ok (.ftintrpWS (rdOf w) (rjOf w))
  | 0x004692 => .ok (.ftintrpWD (rdOf w) (rjOf w))
  | 0x0046a1 => .ok (.ftintrzWS (rdOf w) (rjOf w))
  | 0x0046a2 => .ok (.ftintrzWD (rdOf w) (rjOf w))
  | 0x0046b1 => .ok (.ftintrneWS (rdOf w) (rjOf w))
  | 0x0046b2 => .ok (.ftintrneWD (rdOf w) (rjOf w))
  | 0x0046c1 => .ok (.ftintWS (rdOf w) (rjOf w))
  | 0x0046c2 => .ok (.ftintWD (rdOf w) (rjOf w))
  | 0x004744 => .ok (.ffintSW (rdOf w) (rjOf w))
  | 0x004748 => .ok (.ffintDW (rdOf w) (rjOf w))
  | _ => .error .undefined

/-- Words with instr[31:24] = 0x01: the 3R forms of the floating-point instructions, then the 2R forms. -/
def decodeFloat (w : Word) : Except DecodeError Instr :=
  match op17 w with
  | 0x00201 => .ok (.faddS (rdOf w) (rjOf w) (rkOf w))
  | 0x00202 => .ok (.faddD (rdOf w) (rjOf w) (rkOf w))
  | 0x00205 => .ok (.fsubS (rdOf w) (rjOf w) (rkOf w))
  | 0x00206 => .ok (.fsubD (rdOf w) (rjOf w) (rkOf w))
  | 0x00209 => .ok (.fmulS (rdOf w) (rjOf w) (rkOf w))
  | 0x0020a => .ok (.fmulD (rdOf w) (rjOf w) (rkOf w))
  | 0x0020d => .ok (.fdivS (rdOf w) (rjOf w) (rkOf w))
  | 0x0020e => .ok (.fdivD (rdOf w) (rjOf w) (rkOf w))
  | 0x00211 => .ok (.fmaxS (rdOf w) (rjOf w) (rkOf w))
  | 0x00212 => .ok (.fmaxD (rdOf w) (rjOf w) (rkOf w))
  | 0x00215 => .ok (.fminS (rdOf w) (rjOf w) (rkOf w))
  | 0x00216 => .ok (.fminD (rdOf w) (rjOf w) (rkOf w))
  | 0x00219 => .ok (.fmaxaS (rdOf w) (rjOf w) (rkOf w))
  | 0x0021a => .ok (.fmaxaD (rdOf w) (rjOf w) (rkOf w))
  | 0x0021d => .ok (.fminaS (rdOf w) (rjOf w) (rkOf w))
  | 0x0021e => .ok (.fminaD (rdOf w) (rjOf w) (rkOf w))
  | 0x00225 => .ok (.fcopysignS (rdOf w) (rjOf w) (rkOf w))
  | 0x00226 => .ok (.fcopysignD (rdOf w) (rjOf w) (rkOf w))
  | _ => decodeFloat2R w

/-- 2RI12 words. -/
def decodeImm12 (w : Word) : Except DecodeError Instr :=
  match op10 w with
  | 0x008 => .ok (.slti (rdOf w) (rjOf w) (imm12Of w))
  | 0x009 => .ok (.sltui (rdOf w) (rjOf w) (imm12Of w))
  | 0x00a => .ok (.addiW (rdOf w) (rjOf w) (imm12Of w))
  | 0x00d => .ok (.andi (rdOf w) (rjOf w) (imm12Of w))
  | 0x00e => .ok (.ori (rdOf w) (rjOf w) (imm12Of w))
  | 0x00f => .ok (.xori (rdOf w) (rjOf w) (imm12Of w))
  | 0x018 => .ok (.cacop (rdOf w) (rjOf w) (imm12Of w))
  | 0x0a0 => .ok (.ldB (rdOf w) (rjOf w) (imm12Of w))
  | 0x0a1 => .ok (.ldH (rdOf w) (rjOf w) (imm12Of w))
  | 0x0a2 => .ok (.ldW (rdOf w) (rjOf w) (imm12Of w))
  | 0x0a4 => .ok (.stB (rdOf w) (rjOf w) (imm12Of w))
  | 0x0a5 => .ok (.stH (rdOf w) (rjOf w) (imm12Of w))
  | 0x0a6 => .ok (.stW (rdOf w) (rjOf w) (imm12Of w))
  | 0x0a8 => .ok (.ldBu (rdOf w) (rjOf w) (imm12Of w))
  | 0x0a9 => .ok (.ldHu (rdOf w) (rjOf w) (imm12Of w))
  | 0x0ab => .ok (.preld (rdOf w) (rjOf w) (imm12Of w))
  | 0x0ac => .ok (.fldS (rdOf w) (rjOf w) (imm12Of w))
  | 0x0ad => .ok (.fstS (rdOf w) (rjOf w) (imm12Of w))
  | 0x0ae => .ok (.fldD (rdOf w) (rjOf w) (imm12Of w))
  | 0x0af => .ok (.fstD (rdOf w) (rjOf w) (imm12Of w))
  | _ => .error .undefined

/-- Words with instr[31:22] = 0x19: TLB maintenance, ERTN, IDLE, INVTLB. -/
def decodeTlb (w : Word) : Except DecodeError Instr :=
  match op17 w with
  | 0x00c91 => .ok (.idle (codeOf w))
  | 0x00c93 => .ok (.invtlb (rdOf w) (rjOf w) (rkOf w))
  | _ =>
    match w with
    | 0x06482800 => .ok .tlbsrch
    | 0x06482c00 => .ok .tlbrd
    | 0x06483000 => .ok .tlbwr
    | 0x06483400 => .ok .tlbfill
    | 0x06483800 => .ok .ertn
    | _ => .error .undefined

/-- Words with instr[31:26] = 2: the fused operations (4R). -/
def decode4R (w : Word) : Except DecodeError Instr :=
  match op12 w with
  | 0x081 => .ok (.fmaddS (rdOf w) (rjOf w) (rkOf w) (raOf w))
  | 0x082 => .ok (.fmaddD (rdOf w) (rjOf w) (rkOf w) (raOf w))
  | 0x085 => .ok (.fmsubS (rdOf w) (rjOf w) (rkOf w) (raOf w))
  | 0x086 => .ok (.fmsubD (rdOf w) (rjOf w) (rkOf w) (raOf w))
  | 0x089 => .ok (.fnmaddS (rdOf w) (rjOf w) (rkOf w) (raOf w))
  | 0x08a => .ok (.fnmaddD (rdOf w) (rjOf w) (rkOf w) (raOf w))
  | 0x08d => .ok (.fnmsubS (rdOf w) (rjOf w) (rkOf w) (raOf w))
  | 0x08e => .ok (.fnmsubD (rdOf w) (rjOf w) (rkOf w) (raOf w))
  | _ => .error .undefined

/-- Words with instr[31:20] = 0x0c1: FCMP on single operands, by cond (R215); the ten other values name no instruction. -/
def decodeFcmpS (w : Word) : Except DecodeError Instr :=
  match raOf w with
  | 0x00 => .ok (.fcmpCafS (cdOf w) (rjOf w) (rkOf w))
  | 0x01 => .ok (.fcmpSafS (cdOf w) (rjOf w) (rkOf w))
  | 0x02 => .ok (.fcmpCltS (cdOf w) (rjOf w) (rkOf w))
  | 0x03 => .ok (.fcmpSltS (cdOf w) (rjOf w) (rkOf w))
  | 0x04 => .ok (.fcmpCeqS (cdOf w) (rjOf w) (rkOf w))
  | 0x05 => .ok (.fcmpSeqS (cdOf w) (rjOf w) (rkOf w))
  | 0x06 => .ok (.fcmpCleS (cdOf w) (rjOf w) (rkOf w))
  | 0x07 => .ok (.fcmpSleS (cdOf w) (rjOf w) (rkOf w))
  | 0x08 => .ok (.fcmpCunS (cdOf w) (rjOf w) (rkOf w))
  | 0x09 => .ok (.fcmpSunS (cdOf w) (rjOf w) (rkOf w))
  | 0x0a => .ok (.fcmpCultS (cdOf w) (rjOf w) (rkOf w))
  | 0x0b => .ok (.fcmpSultS (cdOf w) (rjOf w) (rkOf w))
  | 0x0c => .ok (.fcmpCueqS (cdOf w) (rjOf w) (rkOf w))
  | 0x0d => .ok (.fcmpSueqS (cdOf w) (rjOf w) (rkOf w))
  | 0x0e => .ok (.fcmpCuleS (cdOf w) (rjOf w) (rkOf w))
  | 0x0f => .ok (.fcmpSuleS (cdOf w) (rjOf w) (rkOf w))
  | 0x10 => .ok (.fcmpCneS (cdOf w) (rjOf w) (rkOf w))
  | 0x11 => .ok (.fcmpSneS (cdOf w) (rjOf w) (rkOf w))
  | 0x14 => .ok (.fcmpCorS (cdOf w) (rjOf w) (rkOf w))
  | 0x15 => .ok (.fcmpSorS (cdOf w) (rjOf w) (rkOf w))
  | 0x18 => .ok (.fcmpCuneS (cdOf w) (rjOf w) (rkOf w))
  | 0x19 => .ok (.fcmpSuneS (cdOf w) (rjOf w) (rkOf w))
  | _ => .error .undefined

/-- Words with instr[31:20] = 0x0c2: FCMP on double operands, by cond (R215); the ten other values name no instruction. -/
def decodeFcmpD (w : Word) : Except DecodeError Instr :=
  match raOf w with
  | 0x00 => .ok (.fcmpCafD (cdOf w) (rjOf w) (rkOf w))
  | 0x01 => .ok (.fcmpSafD (cdOf w) (rjOf w) (rkOf w))
  | 0x02 => .ok (.fcmpCltD (cdOf w) (rjOf w) (rkOf w))
  | 0x03 => .ok (.fcmpSltD (cdOf w) (rjOf w) (rkOf w))
  | 0x04 => .ok (.fcmpCeqD (cdOf w) (rjOf w) (rkOf w))
  | 0x05 => .ok (.fcmpSeqD (cdOf w) (rjOf w) (rkOf w))
  | 0x06 => .ok (.fcmpCleD (cdOf w) (rjOf w) (rkOf w))
  | 0x07 => .ok (.fcmpSleD (cdOf w) (rjOf w) (rkOf w))
  | 0x08 => .ok (.fcmpCunD (cdOf w) (rjOf w) (rkOf w))
  | 0x09 => .ok (.fcmpSunD (cdOf w) (rjOf w) (rkOf w))
  | 0x0a => .ok (.fcmpCultD (cdOf w) (rjOf w) (rkOf w))
  | 0x0b => .ok (.fcmpSultD (cdOf w) (rjOf w) (rkOf w))
  | 0x0c => .ok (.fcmpCueqD (cdOf w) (rjOf w) (rkOf w))
  | 0x0d => .ok (.fcmpSueqD (cdOf w) (rjOf w) (rkOf w))
  | 0x0e => .ok (.fcmpCuleD (cdOf w) (rjOf w) (rkOf w))
  | 0x0f => .ok (.fcmpSuleD (cdOf w) (rjOf w) (rkOf w))
  | 0x10 => .ok (.fcmpCneD (cdOf w) (rjOf w) (rkOf w))
  | 0x11 => .ok (.fcmpSneD (cdOf w) (rjOf w) (rkOf w))
  | 0x14 => .ok (.fcmpCorD (cdOf w) (rjOf w) (rkOf w))
  | 0x15 => .ok (.fcmpSorD (cdOf w) (rjOf w) (rkOf w))
  | 0x18 => .ok (.fcmpCuneD (cdOf w) (rjOf w) (rkOf w))
  | 0x19 => .ok (.fcmpSuneD (cdOf w) (rjOf w) (rkOf w))
  | _ => .error .undefined

/-- BCEQZ and BCNEZ, told apart by instr[9:8]; the other two values name no instruction. -/
def decodeFlagBranch (w : Word) : Except DecodeError Instr :=
  match w.extractLsb' 8 2 with
  | 0 => .ok (.bceqz (cjOf w) (offs21Of w))
  | 1 => .ok (.bcnez (cjOf w) (offs21Of w))
  | _ => .error .undefined

/-- The counter reads (R231, R356): instr[31:10] = 0x18 is RDCNTVL.W with rj = 0 and RDCNTID with rd = 0, instr[31:10] = 0x19
is RDCNTVH.W with rj = 0; the other words are RDTIME words of the full architecture. -/
def decodeCounter (w : Word) : Except DecodeError Instr :=
  match op22 w with
  | 0x000018 =>
    if rjOf w = 0 then .ok (.rdcntvlW (rdOf w))
    else if rdOf w = 0 then .ok (.rdcntid (rjOf w))
    else .error .rdtime
  | 0x000019 => if rjOf w = 0 then .ok (.rdcntvhW (rdOf w)) else .error .rdtime
  | _ => decodeInt3R w

/-- Words with instr[31:26] = 0. -/
def decodeGroup0 (w : Word) : Except DecodeError Instr :=
  match op8 w with
  | 0x00 => decodeCounter w
  | 0x01 => decodeFloat w
  | _ => decodeImm12 w

/-- The CSR instructions, told apart by instr[9:5] (R481). -/
def decodeCsr (w : Word) : Except DecodeError Instr :=
  match rjOf w with
  | 0 => .ok (.csrrd (rdOf w) (imm14Of w))
  | 1 => .ok (.csrwr (rdOf w) (imm14Of w))
  | rj => .ok (.csrxchg (rdOf w) rj (imm14Of w))

/-- Words with instr[31:26] = 1: the privileged instructions. -/
def decodeGroup1 (w : Word) : Except DecodeError Instr :=
  match op8 w with
  | 0x04 => decodeCsr w
  | 0x06 =>
    match op10 w with
    | 0x019 => decodeTlb w
    | _ => decodeImm12 w
  | _ => .error .undefined

/-- Words with instr[31:26] = 3: FCMP and FSEL. -/
def decodeGroup3 (w : Word) : Except DecodeError Instr :=
  match op12 w with
  | 0x0c1 => if lowSlotClear w then decodeFcmpS w else .error .undefined
  | 0x0c2 => if lowSlotClear w then decodeFcmpD w else .error .undefined
  | _ =>
    match w.extractLsb' 18 14 with
    | 0x0340 => .ok (.fsel (rdOf w) (rjOf w) (rkOf w) (caOf w))
    | _ => .error .undefined

/-- Words with instr[31:26] = 5 or 7: the upper immediates, instr[25] = 0. -/
def decodeUpper (w : Word) : Except DecodeError Instr :=
  match w.extractLsb' 25 7 with
  | 0x0a => .ok (.lu12iW (rdOf w) (imm20Of w))
  | 0x0e => .ok (.pcaddu12i (rdOf w) (imm20Of w))
  | _ => .error .undefined

/-- Words with instr[31:26] = 8: the reservation pair. -/
def decodeReservation (w : Word) : Except DecodeError Instr :=
  match op8 w with
  | 0x20 => .ok (.llW (rdOf w) (rjOf w) (imm14Of w))
  | 0x21 => .ok (.scW (rdOf w) (rjOf w) (imm14Of w))
  | _ => .error .undefined

/-- Words with instr[31:26] = 14: the barriers. -/
def decodeBarrier (w : Word) : Except DecodeError Instr :=
  match op17 w with
  | 0x070e4 => .ok (.dbar (codeOf w))
  | 0x070e5 => .ok (.ibar (codeOf w))
  | _ => .error .undefined

/-- The instruction a 32-bit word encodes (R220, R231, R232). -/
def decodeWord (w : Word) : Except DecodeError Instr :=
  match op6 w with
  | 0x00 => decodeGroup0 w
  | 0x01 => decodeGroup1 w
  | 0x02 => decode4R w
  | 0x03 => decodeGroup3 w
  | 0x05 => decodeUpper w
  | 0x07 => decodeUpper w
  | 0x08 => decodeReservation w
  | 0x0a => decodeImm12 w
  | 0x0e => decodeBarrier w
  | 0x12 => decodeFlagBranch w
  | 0x13 => .ok (.jirl (rdOf w) (rjOf w) (offs16Of w))
  | 0x14 => .ok (.b (offs26Of w))
  | 0x15 => .ok (.bl (offs26Of w))
  | 0x16 => .ok (.beq (rjOf w) (rdOf w) (offs16Of w))
  | 0x17 => .ok (.bne (rjOf w) (rdOf w) (offs16Of w))
  | 0x18 => .ok (.blt (rjOf w) (rdOf w) (offs16Of w))
  | 0x19 => .ok (.bge (rjOf w) (rdOf w) (offs16Of w))
  | 0x1a => .ok (.bltu (rjOf w) (rdOf w) (offs16Of w))
  | 0x1b => .ok (.bgeu (rjOf w) (rdOf w) (offs16Of w))
  | _ => .error .undefined

/-- The four bytes of an instruction make its word, the byte at the lowest address in bits 7:0 (R132). -/
def wordOfBytes (b0 b1 b2 b3 : Byte) : Word := b3 ++ b2 ++ b1 ++ b0

/-- The bytes of a word, lowest address first (R132). -/
def bytesOfWord (w : Word) : List Byte :=
  [w.extractLsb' 0 8, w.extractLsb' 8 8, w.extractLsb' 16 8, w.extractLsb' 24 8]

/-- The instruction at the head of a list of bytes, and the bytes after it. -/
def decode : List Byte → Except DecodeError (Instr × List Byte)
  | b0 :: b1 :: b2 :: b3 :: rest =>
    match decodeWord (wordOfBytes b0 b1 b2 b3) with
    | .ok i => .ok (i, rest)
    | .error e => .error e
  | _ => .error .truncated

/-! Encoding, by format (R202, R203). -/

def enc2R (op : BitVec 22) (j d : BitVec 5) : Word := op ++ j ++ d
def enc3R (op : BitVec 17) (k j d : BitVec 5) : Word := op ++ k ++ j ++ d
def enc4R (op : BitVec 12) (a k j d : BitVec 5) : Word := op ++ a ++ k ++ j ++ d
def encSel (op : BitVec 14) (ca : BitVec 3) (k j d : BitVec 5) : Word := op ++ ca ++ k ++ j ++ d
def enc2RI12 (op : BitVec 10) (i : BitVec 12) (j d : BitVec 5) : Word := op ++ i ++ j ++ d
def enc2RI14 (op : BitVec 8) (i : BitVec 14) (j d : BitVec 5) : Word := op ++ i ++ j ++ d
def enc2RI16 (op : BitVec 6) (i : BitVec 16) (j d : BitVec 5) : Word := op ++ i ++ j ++ d
def enc1RI20 (op : BitVec 7) (i : BitVec 20) (d : BitVec 5) : Word := op ++ i ++ d
def enc1RI21 (op : BitVec 6) (i : BitVec 21) (ext : BitVec 2) (c : BitVec 3) : Word :=
  op ++ i.extractLsb' 0 16 ++ ext ++ c ++ i.extractLsb' 16 5
def encI26 (op : BitVec 6) (i : BitVec 26) : Word := op ++ i.extractLsb' 0 16 ++ i.extractLsb' 16 10
def encCode (op : BitVec 17) (c : BitVec 15) : Word := op ++ c

/-- A condition flag number in a five-bit register slot, the two bits above it zero. -/
def flagSlot (c : CFlag) : BitVec 5 := (0 : BitVec 2) ++ c

/-- The 32-bit word of an instruction, from the encoding tables (R202, R203, R220). -/
def encodeWord : Instr → Word
  | .rdcntid rj => enc2R 0x000018 rj 0
  | .rdcntvlW rd => enc2R 0x000018 0 rd
  | .rdcntvhW rd => enc2R 0x000019 0 rd
  | .addW rd rj rk => enc3R 0x00020 rk rj rd
  | .subW rd rj rk => enc3R 0x00022 rk rj rd
  | .slt rd rj rk => enc3R 0x00024 rk rj rd
  | .sltu rd rj rk => enc3R 0x00025 rk rj rd
  | .nor rd rj rk => enc3R 0x00028 rk rj rd
  | .and rd rj rk => enc3R 0x00029 rk rj rd
  | .or rd rj rk => enc3R 0x0002a rk rj rd
  | .xor rd rj rk => enc3R 0x0002b rk rj rd
  | .sllW rd rj rk => enc3R 0x0002e rk rj rd
  | .srlW rd rj rk => enc3R 0x0002f rk rj rd
  | .sraW rd rj rk => enc3R 0x00030 rk rj rd
  | .mulW rd rj rk => enc3R 0x00038 rk rj rd
  | .mulhW rd rj rk => enc3R 0x00039 rk rj rd
  | .mulhWu rd rj rk => enc3R 0x0003a rk rj rd
  | .divW rd rj rk => enc3R 0x00040 rk rj rd
  | .modW rd rj rk => enc3R 0x00041 rk rj rd
  | .divWu rd rj rk => enc3R 0x00042 rk rj rd
  | .modWu rd rj rk => enc3R 0x00043 rk rj rd
  | .brk code => encCode 0x00054 code
  | .syscall code => encCode 0x00056 code
  | .slliW rd rj ui5 => enc3R 0x00081 ui5 rj rd
  | .srliW rd rj ui5 => enc3R 0x00089 ui5 rj rd
  | .sraiW rd rj ui5 => enc3R 0x00091 ui5 rj rd
  | .faddS fd fj fk => enc3R 0x00201 fk fj fd
  | .faddD fd fj fk => enc3R 0x00202 fk fj fd
  | .fsubS fd fj fk => enc3R 0x00205 fk fj fd
  | .fsubD fd fj fk => enc3R 0x00206 fk fj fd
  | .fmulS fd fj fk => enc3R 0x00209 fk fj fd
  | .fmulD fd fj fk => enc3R 0x0020a fk fj fd
  | .fdivS fd fj fk => enc3R 0x0020d fk fj fd
  | .fdivD fd fj fk => enc3R 0x0020e fk fj fd
  | .fmaxS fd fj fk => enc3R 0x00211 fk fj fd
  | .fmaxD fd fj fk => enc3R 0x00212 fk fj fd
  | .fminS fd fj fk => enc3R 0x00215 fk fj fd
  | .fminD fd fj fk => enc3R 0x00216 fk fj fd
  | .fmaxaS fd fj fk => enc3R 0x00219 fk fj fd
  | .fmaxaD fd fj fk => enc3R 0x0021a fk fj fd
  | .fminaS fd fj fk => enc3R 0x0021d fk fj fd
  | .fminaD fd fj fk => enc3R 0x0021e fk fj fd
  | .fcopysignS fd fj fk => enc3R 0x00225 fk fj fd
  | .fcopysignD fd fj fk => enc3R 0x00226 fk fj fd
  | .fabsS fd fj => enc2R 0x004501 fj fd
  | .fabsD fd fj => enc2R 0x004502 fj fd
  | .fnegS fd fj => enc2R 0x004505 fj fd
  | .fnegD fd fj => enc2R 0x004506 fj fd
  | .fclassS fd fj => enc2R 0x00450d fj fd
  | .fclassD fd fj => enc2R 0x00450e fj fd
  | .fsqrtS fd fj => enc2R 0x004511 fj fd
  | .fsqrtD fd fj => enc2R 0x004512 fj fd
  | .frecipS fd fj => enc2R 0x004515 fj fd
  | .frecipD fd fj => enc2R 0x004516 fj fd
  | .frsqrtS fd fj => enc2R 0x004519 fj fd
  | .frsqrtD fd fj => enc2R 0x00451a fj fd
  | .fmovS fd fj => enc2R 0x004525 fj fd
  | .fmovD fd fj => enc2R 0x004526 fj fd
  | .movgr2frW fd rj => enc2R 0x004529 rj fd
  | .movgr2frhW fd rj => enc2R 0x00452b rj fd
  | .movfr2grS rd fj => enc2R 0x00452d fj rd
  | .movfrh2grS rd fj => enc2R 0x00452f fj rd
  | .movgr2fcsr fcsr rj => enc2R 0x004530 rj fcsr
  | .movfcsr2gr rd fcsr => enc2R 0x004532 fcsr rd
  | .movfr2cf cd fj => enc2R 0x004534 fj (flagSlot cd)
  | .movcf2fr fd cj => enc2R 0x004535 (flagSlot cj) fd
  | .movgr2cf cd rj => enc2R 0x004536 rj (flagSlot cd)
  | .movcf2gr rd cj => enc2R 0x004537 (flagSlot cj) rd
  | .fcvtSD fd fj => enc2R 0x004646 fj fd
  | .fcvtDS fd fj => enc2R 0x004649 fj fd
  | .ftintrmWS fd fj => enc2R 0x004681 fj fd
  | .ftintrmWD fd fj => enc2R 0x004682 fj fd
  | .ftintrpWS fd fj => enc2R 0x004691 fj fd
  | .ftintrpWD fd fj => enc2R 0x004692 fj fd
  | .ftintrzWS fd fj => enc2R 0x0046a1 fj fd
  | .ftintrzWD fd fj => enc2R 0x0046a2 fj fd
  | .ftintrneWS fd fj => enc2R 0x0046b1 fj fd
  | .ftintrneWD fd fj => enc2R 0x0046b2 fj fd
  | .ftintWS fd fj => enc2R 0x0046c1 fj fd
  | .ftintWD fd fj => enc2R 0x0046c2 fj fd
  | .ffintSW fd fj => enc2R 0x004744 fj fd
  | .ffintDW fd fj => enc2R 0x004748 fj fd
  | .slti rd rj si12 => enc2RI12 0x008 si12 rj rd
  | .sltui rd rj si12 => enc2RI12 0x009 si12 rj rd
  | .addiW rd rj si12 => enc2RI12 0x00a si12 rj rd
  | .andi rd rj ui12 => enc2RI12 0x00d ui12 rj rd
  | .ori rd rj ui12 => enc2RI12 0x00e ui12 rj rd
  | .xori rd rj ui12 => enc2RI12 0x00f ui12 rj rd
  | .csrrd rd csr => enc2RI14 0x04 csr 0 rd
  | .csrwr rd csr => enc2RI14 0x04 csr 1 rd
  | .csrxchg rd rj csr => enc2RI14 0x04 csr rj rd
  | .cacop code rj si12 => enc2RI12 0x018 si12 rj code
  | .tlbsrch => 0x06482800
  | .tlbrd => 0x06482c00
  | .tlbwr => 0x06483000
  | .tlbfill => 0x06483400
  | .ertn => 0x06483800
  | .idle level => encCode 0x00c91 level
  | .invtlb op rj rk => enc3R 0x00c93 rk rj op
  | .fmaddS fd fj fk fa => enc4R 0x081 fa fk fj fd
  | .fmaddD fd fj fk fa => enc4R 0x082 fa fk fj fd
  | .fmsubS fd fj fk fa => enc4R 0x085 fa fk fj fd
  | .fmsubD fd fj fk fa => enc4R 0x086 fa fk fj fd
  | .fnmaddS fd fj fk fa => enc4R 0x089 fa fk fj fd
  | .fnmaddD fd fj fk fa => enc4R 0x08a fa fk fj fd
  | .fnmsubS fd fj fk fa => enc4R 0x08d fa fk fj fd
  | .fnmsubD fd fj fk fa => enc4R 0x08e fa fk fj fd
  | .fcmpCafS cd fj fk => enc4R 0x0c1 0x00 fk fj (flagSlot cd)
  | .fcmpSafS cd fj fk => enc4R 0x0c1 0x01 fk fj (flagSlot cd)
  | .fcmpCltS cd fj fk => enc4R 0x0c1 0x02 fk fj (flagSlot cd)
  | .fcmpSltS cd fj fk => enc4R 0x0c1 0x03 fk fj (flagSlot cd)
  | .fcmpCeqS cd fj fk => enc4R 0x0c1 0x04 fk fj (flagSlot cd)
  | .fcmpSeqS cd fj fk => enc4R 0x0c1 0x05 fk fj (flagSlot cd)
  | .fcmpCleS cd fj fk => enc4R 0x0c1 0x06 fk fj (flagSlot cd)
  | .fcmpSleS cd fj fk => enc4R 0x0c1 0x07 fk fj (flagSlot cd)
  | .fcmpCunS cd fj fk => enc4R 0x0c1 0x08 fk fj (flagSlot cd)
  | .fcmpSunS cd fj fk => enc4R 0x0c1 0x09 fk fj (flagSlot cd)
  | .fcmpCultS cd fj fk => enc4R 0x0c1 0x0a fk fj (flagSlot cd)
  | .fcmpSultS cd fj fk => enc4R 0x0c1 0x0b fk fj (flagSlot cd)
  | .fcmpCueqS cd fj fk => enc4R 0x0c1 0x0c fk fj (flagSlot cd)
  | .fcmpSueqS cd fj fk => enc4R 0x0c1 0x0d fk fj (flagSlot cd)
  | .fcmpCuleS cd fj fk => enc4R 0x0c1 0x0e fk fj (flagSlot cd)
  | .fcmpSuleS cd fj fk => enc4R 0x0c1 0x0f fk fj (flagSlot cd)
  | .fcmpCneS cd fj fk => enc4R 0x0c1 0x10 fk fj (flagSlot cd)
  | .fcmpSneS cd fj fk => enc4R 0x0c1 0x11 fk fj (flagSlot cd)
  | .fcmpCorS cd fj fk => enc4R 0x0c1 0x14 fk fj (flagSlot cd)
  | .fcmpSorS cd fj fk => enc4R 0x0c1 0x15 fk fj (flagSlot cd)
  | .fcmpCuneS cd fj fk => enc4R 0x0c1 0x18 fk fj (flagSlot cd)
  | .fcmpSuneS cd fj fk => enc4R 0x0c1 0x19 fk fj (flagSlot cd)
  | .fcmpCafD cd fj fk => enc4R 0x0c2 0x00 fk fj (flagSlot cd)
  | .fcmpSafD cd fj fk => enc4R 0x0c2 0x01 fk fj (flagSlot cd)
  | .fcmpCltD cd fj fk => enc4R 0x0c2 0x02 fk fj (flagSlot cd)
  | .fcmpSltD cd fj fk => enc4R 0x0c2 0x03 fk fj (flagSlot cd)
  | .fcmpCeqD cd fj fk => enc4R 0x0c2 0x04 fk fj (flagSlot cd)
  | .fcmpSeqD cd fj fk => enc4R 0x0c2 0x05 fk fj (flagSlot cd)
  | .fcmpCleD cd fj fk => enc4R 0x0c2 0x06 fk fj (flagSlot cd)
  | .fcmpSleD cd fj fk => enc4R 0x0c2 0x07 fk fj (flagSlot cd)
  | .fcmpCunD cd fj fk => enc4R 0x0c2 0x08 fk fj (flagSlot cd)
  | .fcmpSunD cd fj fk => enc4R 0x0c2 0x09 fk fj (flagSlot cd)
  | .fcmpCultD cd fj fk => enc4R 0x0c2 0x0a fk fj (flagSlot cd)
  | .fcmpSultD cd fj fk => enc4R 0x0c2 0x0b fk fj (flagSlot cd)
  | .fcmpCueqD cd fj fk => enc4R 0x0c2 0x0c fk fj (flagSlot cd)
  | .fcmpSueqD cd fj fk => enc4R 0x0c2 0x0d fk fj (flagSlot cd)
  | .fcmpCuleD cd fj fk => enc4R 0x0c2 0x0e fk fj (flagSlot cd)
  | .fcmpSuleD cd fj fk => enc4R 0x0c2 0x0f fk fj (flagSlot cd)
  | .fcmpCneD cd fj fk => enc4R 0x0c2 0x10 fk fj (flagSlot cd)
  | .fcmpSneD cd fj fk => enc4R 0x0c2 0x11 fk fj (flagSlot cd)
  | .fcmpCorD cd fj fk => enc4R 0x0c2 0x14 fk fj (flagSlot cd)
  | .fcmpSorD cd fj fk => enc4R 0x0c2 0x15 fk fj (flagSlot cd)
  | .fcmpCuneD cd fj fk => enc4R 0x0c2 0x18 fk fj (flagSlot cd)
  | .fcmpSuneD cd fj fk => enc4R 0x0c2 0x19 fk fj (flagSlot cd)
  | .fsel fd fj fk ca => encSel 0x0340 ca fk fj fd
  | .lu12iW rd si20 => enc1RI20 0x0a si20 rd
  | .pcaddu12i rd si20 => enc1RI20 0x0e si20 rd
  | .llW rd rj si14 => enc2RI14 0x20 si14 rj rd
  | .scW rd rj si14 => enc2RI14 0x21 si14 rj rd
  | .ldB rd rj si12 => enc2RI12 0x0a0 si12 rj rd
  | .ldH rd rj si12 => enc2RI12 0x0a1 si12 rj rd
  | .ldW rd rj si12 => enc2RI12 0x0a2 si12 rj rd
  | .stB rd rj si12 => enc2RI12 0x0a4 si12 rj rd
  | .stH rd rj si12 => enc2RI12 0x0a5 si12 rj rd
  | .stW rd rj si12 => enc2RI12 0x0a6 si12 rj rd
  | .ldBu rd rj si12 => enc2RI12 0x0a8 si12 rj rd
  | .ldHu rd rj si12 => enc2RI12 0x0a9 si12 rj rd
  | .preld hint rj si12 => enc2RI12 0x0ab si12 rj hint
  | .fldS fd rj si12 => enc2RI12 0x0ac si12 rj fd
  | .fstS fd rj si12 => enc2RI12 0x0ad si12 rj fd
  | .fldD fd rj si12 => enc2RI12 0x0ae si12 rj fd
  | .fstD fd rj si12 => enc2RI12 0x0af si12 rj fd
  | .dbar hint => encCode 0x070e4 hint
  | .ibar hint => encCode 0x070e5 hint
  | .bceqz cj offs => enc1RI21 0x12 offs 0 cj
  | .bcnez cj offs => enc1RI21 0x12 offs 1 cj
  | .jirl rd rj offs => enc2RI16 0x13 offs rj rd
  | .b offs => encI26 0x14 offs
  | .bl offs => encI26 0x15 offs
  | .beq rj rd offs => enc2RI16 0x16 offs rj rd
  | .bne rj rd offs => enc2RI16 0x17 offs rj rd
  | .blt rj rd offs => enc2RI16 0x18 offs rj rd
  | .bge rj rd offs => enc2RI16 0x19 offs rj rd
  | .bltu rj rd offs => enc2RI16 0x1a offs rj rd
  | .bgeu rj rd offs => enc2RI16 0x1b offs rj rd

/-- The bytes of an instruction, lowest address first. -/
def encode (i : Instr) : List Byte := bytesOfWord (encodeWord i)

/-- The instruction in an opcode-table word: `w` has `nbits` bits, every bit above them is 0, and its bytes are laid out as
memory holds them. -/
def decodeTableWord (nbits w : Nat) : Option Instr :=
  match decode (bytesOfWord (BitVec.ofNat 32 (w % 2 ^ nbits))) with
  | .ok (i, _) => some i
  | .error _ => none

end Sys2Proof
end

