-- ==== Sys2Proof/Machine/Environment.lean ====
section
/-! DEFINITION. What happens between two instructions: ticks of the constant-frequency clock (60_exceptions.md R582), interrupt
lines (R571), stores by other agents and loss of the reservation (42_memory_access.md R337). Log 10, 11, 43. -/

namespace Sys2Proof.Machine

/-- The input of a step when the list of inputs is empty: one tick, lines as they are, nothing else. -/
def quietInput (s : State) : StepInput where
  ticks := 1
  hwi := s.csr.estat.extractLsb' 2 8
  ipi := s.csr.estat.getLsbD 12
  deferInterrupt := false
  staleChoice := 0
  agentStores := []
  loseReservation := false

/-- The input of the next step. -/
def nextInput (s : State) : StepInput := s.inputs.head?.getD (quietInput s)

/-- The tick at which the timer raises TI: it counts and stands at 0 (R582). -/
def timerExpires (s : State) : Bool := timerCounting s && s.timerVal == 0

/-- The timer at a tick (R582): count down; at 0 set TI, then reload when periodic and stop otherwise. -/
def timerTick (s : State) : State :=
  { s with
    timerVal :=
      if timerCounting s = false then s.timerVal
      else if s.timerVal ≠ 0 then s.timerVal - 1
      else if s.csr.tcfg.getLsbD 1 then s.csr.tcfg &&& 0xFFFFFFFC
      else 0
    timerRun := s.timerRun && !(timerExpires s && !s.csr.tcfg.getLsbD 1)
    csr := { s.csr with estat := if timerExpires s then setBits s.csr.estat 0x800 0x800 else s.csr.estat } }

/-- `Tick()` of R582: the counter goes up, wrapping (R55), and the timer counts. -/
def tick (s : State) : State := timerTick { s with counter := s.counter + 1 }

/-- Ticks one after another. -/
def ticks : Nat → State → State
  | 0, s => s
  | n + 1, s => ticks n (tick s)

/-- The interrupt lines sampled into ESTAT.IS[9:2] and IS[12] (R571, D31). -/
def sampleLines (hwi : BitVec 8) (ipi : Bool) (s : State) : State :=
  { s with csr := { s.csr with
      estat := setBits s.csr.estat 0x13FC ((hwi.setWidth 32 <<< 2) ||| ((BitVec.ofBool ipi).setWidth 32 <<< 12)) } }

/-- The bytes of a size. -/
def StoreSize.bytes : StoreSize → Nat
  | .byte => 1
  | .halfword => 2
  | .word => 4

/-- Where an agent's store lands: the multiple of its size that holds its address. -/
def AgentStore.pa (c : AgentStore) : Nat := c.addr / c.size.bytes * c.size.bytes

/-- The older words after another agent's store to the aligned word at `a`: hardware keeps the caches coherent with that agent, so
those of this word need only an IBAR more (R186, R622). DEDUCED for words this core stored itself before: with D41 a fetch sees a
word as a whole, so one that shows the agent's bytes shows no older word (log 34). -/
def settleWord (a : Nat) (l : List StaleWord) : List StaleWord :=
  l.map fun w => if w.addr = a then { w with stage := .invalidated } else w

/-- One store by another core or a coherent master, performed at once (R138). A store to the reserved word ends the reservation,
whatever is there (R337 (b), R339, D42; log 43). In RAM memory changes, and until an IBAR a fetch may see the whole word as it
was, or an older one of that word (R186, D41; log 34). -/
def agentStore (c : AgentStore) (s : State) : State :=
  { s with
    mem := if regionKind c.pa s = .ram then s.mem.write c.pa (c.value.setWidth 64) c.size.bytes else s.mem
    llbit := s.llbit && c.pa / 4 != s.lladdr / 4
    stale :=
      if regionKind c.pa s = .ram then
        staleWords s.mem c.pa c.size.bytes .invalidated ++ settleWord (c.pa / 4 * 4) s.stale
      else s.stale }

/-- Stores by other agents, one after another. -/
def agentStores : List AgentStore → State → State
  | [], s => s
  | c :: cs, s => agentStores cs (agentStore c s)

/-- The start of a step: the outside world acts as its input says, and a fresh free value is due. -/
def boundary (s : State) : State :=
  let i := nextInput s
  let s1 := agentStores i.agentStores s
  let s2 := ticks i.ticks { s1 with llbit := s1.llbit && !i.loseReservation }
  { sampleLines i.hwi i.ipi s2 with inputs := s.inputs.tail, draws := s.draws + 1 }

end Sys2Proof.Machine
end

