-- ==== Sys2Proof/Machine/Fetch.lean ====
section
/-! DEFINITION. Up to the instruction: the boundary, refused states, waiting, interrupts, fetch and decode
(60_exceptions.md R550, R572, R576; 20_memory.md R136, R145, R185). -/

namespace Sys2Proof.Machine

/-- The words a fetch of the aligned word at `pa` may see: the current one, then older ones (R185, D41; log 34). -/
def fetchCandidates (pa : Nat) (s : State) : List Word :=
  s.mem.word pa :: (s.stale.filter fun w => w.addr = pa).map StaleWord.word

/-- The word a fetch sees: the chosen candidate, the current one where there is none of that number. -/
def seenWord (choice pa : Nat) (s : State) : Word := (fetchCandidates pa s).getD choice (s.mem.word pa)

/-- The word fetched from a place, and the state after it: a device answers a free value and is recorded, once. That a
fetch, of either access type, is performed exactly once is a DESIGN CHOICE: R141 lets it be repeated and speculative (log 61, 64). -/
def fetchFrom (choice : Nat) (p : Place) (s : State) : Word × State :=
  if p.kind = .device then
    (Config.deviceFetch s.draws,
      { s with io := ⟨false, p.target.pa, 4, (Config.deviceFetch s.draws).setWidth 64⟩ :: s.io })
  else (seenWord choice p.target.pa s, s)

/-- The instruction fetch: a misaligned pc raises ADEF before anything else (R136, R555), then translation (R145). -/
def fetchPlace (s : State) : Access Place :=
  if s.pc.toNat % 4 ≠ 0 then .raise .ADEF s.pc
  else (translate .fetch s.pc s).bind fun t => (typed t).bind fun t => placed t s

/-- What a step does before an instruction's own effect. -/
inductive Phase where
  /-- The step ends here: an exception, a stop, or the core waits. -/
  | done (r : Result)
  /-- An instruction runs from a state. -/
  | run (i : Instr) (s : State)

/-- Decode what was fetched: an undefined word raises INE (R565), an RDTIME word is refused (R356). -/
def decodePhase (w : Word) (s : State) : Phase :=
  match decodeWord w with
  | .ok i => .run i s
  | .error .rdtime => .done (.refused .rdtimeForm)
  | .error .undefined => .done (trap .INE s)
  | .error .truncated => .done (trap .INE s)

/-- Fetch and decode. -/
def fetchPhase (choice : Nat) (s : State) : Phase :=
  match fetchPlace s with
  | .ok p => decodePhase (fetchFrom choice p s).1 (fetchFrom choice p s).2
  | .raise x va => .done (.next (enter x va s))
  | .refuse r => .done (.refused r)

/-- An interrupt is pending and enabled (R572). -/
def interruptPending (s : State) : Bool := interruptsOn s && pendingVector s != 0

/-- The legal privilege levels (R520, R523). -/
def legalLevel (s : State) : Bool := plv s == 0 || plv s == 3

/-- The legal translation modes (R71, R147). -/
def legalMode (s : State) : Bool := directBit s != pagingBit s

/-- A step from the boundary on: `i` is the step's input, `s` the state after the outside world acted. A refused state first
(R147, R523); a waiting core stays so until some enabled source is pending (R500, R576, D11; log 22); a pending interrupt is
taken before the fetch unless the input puts it off (R550, R572; log 12). -/
def corePhase (i : StepInput) (s : State) : Phase :=
  if legalLevel s = false then .done (.refused .illegalPrivilegeLevel)
  else if legalMode s = false then .done (.refused .illegalTranslationMode)
  else if s.waiting && pendingVector s == 0 then .done (.next s)
  else if interruptPending s && !i.deferInterrupt then .done (trap .INT { s with waiting := false })
  else fetchPhase i.staleChoice { s with waiting := false }

/-- Everything of a step before the instruction's own effect. -/
def prepare (s : State) : Phase := corePhase (nextInput s) (boundary s)

/-- Store an instruction word where the next fetch reads; nothing where that fetch would raise an exception or stop. -/
def placeFetchWord (w : Word) (s : State) : State :=
  match fetchPlace s with
  | .ok p =>
    { s with
      mem := s.mem.write p.target.pa (w.setWidth 64) 4
      stale := s.stale.filter fun x => x.addr ≠ p.target.pa }
  | _ => s

end Sys2Proof.Machine
end

