-- ==== Sys2Proof/Machine/Step.lean ====
section
/-! DEFINITION. One step of the machine: what comes before the instruction (Fetch.lean), then its meaning (Dispatch.lean). -/

namespace Sys2Proof.Machine

/-- What a phase leads to: its own end, or the instruction's meaning. -/
def Phase.outcome : Phase → Host.Outcome State Fault Refusal
  | .done r => r
  | .run i s => exec i s

/-- One step. -/
def step (s : State) : Host.Outcome State Fault Refusal := (prepare s).outcome

/-- `s` with an instruction word stored where the next step fetches (log 57). The word's bits from `nbits` up are 0. -/
def State.withFetchWord (s : State) (nbits w : Nat) : State := placeFetchWord (BitVec.ofNat 32 (w % 2 ^ nbits)) s

end Sys2Proof.Machine
end

