-- ==== Sys2Proof/Safety.lean ====
section
/-! DEFINITION. What counts as a good state and a safe run. -/

namespace Sys2Proof.Machine

/-- The bits of `w` outside `mask` are 0. -/
abbrev onlyBits (w mask : Word) : Prop := w &&& ~~~mask = 0

/-- Reserved and constant-0 bits of the control and status registers are 0 (R67, R71 to R102). -/
abbrev State.csrsReserved (s : State) : Prop :=
  onlyBits s.csr.crmd (csrMask 0x0 s) ∧ onlyBits s.csr.prmd (csrMask 0x1 s) ∧ onlyBits s.csr.euen (csrMask 0x2 s) ∧
  onlyBits s.csr.ecfg (csrMask 0x4 s) ∧ onlyBits s.csr.estat 0x7FFF1BFF ∧ onlyBits s.csr.eentry (csrMask 0xC s) ∧
  onlyBits s.csr.tlbidx (csrMask 0x10 s) ∧ onlyBits s.csr.tlbehi (csrMask 0x11 s) ∧
  onlyBits s.csr.tlbelo0 (csrMask 0x12 s) ∧ onlyBits s.csr.tlbelo1 (csrMask 0x13 s) ∧
  onlyBits s.csr.asid (csrMask 0x18 s) ∧ onlyBits s.csr.pgdl (csrMask 0x19 s) ∧ onlyBits s.csr.pgdh (csrMask 0x1A s) ∧
  onlyBits s.csr.tcfg (csrMask 0x41 s) ∧ onlyBits s.csr.llbctl (csrMask 0x60 s) ∧
  onlyBits s.csr.tlbrentry (csrMask 0x88 s) ∧ onlyBits s.csr.dmw0 (csrMask 0x180 s) ∧ onlyBits s.csr.dmw1 (csrMask 0x181 s)

/-- The TLB's non-empty entries have a page size LA32R supports (R57, R161). -/
abbrev State.tlbSupported (s : State) : Prop := ∀ e ∈ s.tlb, e.e = true → supportedPage e.ps = true

/-- What every step keeps: the parameters are in their ranges (R9), r0's storage is 0 (R31), memory is canonical, reserved bits of
CSRs and of fcsr0 are 0 (R47, R67), the timer fits its width (R56), the TLB has its number of entries and holds supported pages. -/
abbrev State.Inv (s : State) : Prop :=
  s.cfg.wf = true ∧ s.gpr[0] = 0 ∧ s.mem.wf ∧ s.csrsReserved ∧ onlyBits s.fcsr0 0x1F1F031F ∧
  onlyBits s.timerVal (lowMask s.cfg.timerN) ∧ s.tlb.length = s.cfg.tlbEntries ∧ s.tlbSupported

/-- A step that goes on. -/
def State.continues (s : State) : Prop := ∃ t, step s = .next t

/-- A run of `n` steps that never stops. -/
def State.safeFor : Nat → State → Prop
  | 0, _ => True
  | n + 1, s => ∃ t, step s = .next t ∧ State.safeFor n t

/-- A state whose privilege level and translation mode the manual defines (R147, R523). -/
abbrev State.defined (s : State) : Prop := legalLevel s = true ∧ legalMode s = true

/-! What a statement about an instruction says of the state it leaves: the parts it keeps, and how it ended. -/

/-- The instruction completes, in a state of which `post` holds. -/
def completes (i : Instr) (s : State) (post : State → Prop) : Prop := ∃ t, exec i s = .next t ∧ post t

/-- Every general register reads as before. -/
def keepsGprs (s t : State) : Prop := ∀ r, gprGet r t = gprGet r s

/-- Floating-point registers, condition flags and fcsr0 are unchanged. -/
def keepsFloat (s t : State) : Prop := t.fpr = s.fpr ∧ t.cf = s.cf ∧ t.fcsr0 = s.fcsr0

/-- Control and status registers, the TLB, LLbit and its address are unchanged. -/
def keepsSystem (s t : State) : Prop := t.csr = s.csr ∧ t.tlb = s.tlb ∧ t.llbit = s.llbit ∧ t.lladdr = s.lladdr

/-- The Stable Counter, the timer and the waiting state are unchanged. -/
def keepsTime (s t : State) : Prop :=
  t.counter = s.counter ∧ t.timerVal = s.timerVal ∧ t.timerRun = s.timerRun ∧ t.waiting = s.waiting

/-- Every byte of memory reads as before, to loads and to fetches, and no device was accessed. -/
def keepsStorage (s t : State) : Prop := (∀ a, t.mem.byte a = s.mem.byte a) ∧ t.stale = s.stale ∧ t.io = s.io

/-- The model's own fields are unchanged. -/
def keepsModel (s t : State) : Prop := t.cfg = s.cfg ∧ t.draws = s.draws ∧ t.inputs = s.inputs

/-- Only `rd` changed, to `v` (r0 stays 0, R31), and pc is the next instruction's. -/
def wroteGpr (rd : Reg) (v : Word) (s t : State) : Prop :=
  gprGet rd t = (if rd = 0 then 0 else v) ∧ (∀ r, r ≠ rd → gprGet r t = gprGet r s) ∧ t.pc = s.pc + 4 ∧
  keepsFloat s t ∧ keepsSystem s t ∧ keepsTime s t ∧ keepsStorage s t ∧ keepsModel s t

/-- Only floating-point register `fd`, and perhaps fcsr0, changed, and pc is the next instruction's. -/
def aroundFpr (fd : FReg) (s t : State) : Prop :=
  (∀ r, r ≠ fd → fprGet r t = fprGet r s) ∧ t.cf = s.cf ∧ t.pc = s.pc + 4 ∧
  keepsGprs s t ∧ keepsSystem s t ∧ keepsTime s t ∧ keepsStorage s t ∧ keepsModel s t

/-- `fd` holds the single or word `v` in bits 31:0; of bits 63:32 nothing is said (R42). -/
def wroteSingle (fd : FReg) (v : Word) (s t : State) : Prop := fprGetW fd t = v ∧ aroundFpr fd s t

/-- `fd` holds `v`. -/
def wroteDouble (fd : FReg) (v : DWord) (s t : State) : Prop := fprGet fd t = v ∧ aroundFpr fd s t

/-- Only condition flag `cd`, and perhaps fcsr0, changed, and pc is the next instruction's. -/
def wroteFlag (cd : CFlag) (b : Bool) (s t : State) : Prop :=
  cfGet cd t = b ∧ (∀ c, c ≠ cd → cfGet c t = cfGet c s) ∧ t.fpr = s.fpr ∧ t.pc = s.pc + 4 ∧
  keepsGprs s t ∧ keepsSystem s t ∧ keepsTime s t ∧ keepsStorage s t ∧ keepsModel s t

/-- fcsr0 after a floating-point operation that raised `e`: Cause is `e`, Flags gathered it, the rest is as before (R366). -/
def statusAfter (e : BitVec 5) (s t : State) : Prop :=
  t.fcsr0.extractLsb' 24 5 = e ∧ t.fcsr0.extractLsb' 16 5 = s.fcsr0.extractLsb' 16 5 ||| e ∧
  t.fcsr0 &&& 0xE0E0FFFF = s.fcsr0 &&& 0xE0E0FFFF

/-- fcsr0 after one that trapped: Cause is `e`, the rest is as before (R366). -/
def trappedStatus (e : BitVec 5) (s t : State) : Prop :=
  t.fcsr0.extractLsb' 24 5 = e ∧ t.fcsr0 &&& 0xE0FFFFFF = s.fcsr0 &&& 0xE0FFFFFF

/-- The `n` bytes at the target are the low `n` bytes of `v`, the lowest first (R132); every other byte reads as before; a fetch may
still see the words there were, and needs more maintenance after a store through the cache than after another (R185). -/
def stored (p : Target) (n : Nat) (v : DWord) (s t : State) : Prop :=
  (∀ i, i < n → t.mem.byte (p.pa + i) = v.extractLsb' (8 * i) 8) ∧
  (∀ a, a < p.pa ∨ p.pa + n ≤ a → t.mem.byte a = s.mem.byte a) ∧
  t.stale = staleWords s.mem p.pa n (if p.mat = 1 then .stored else .invalidated) ++ s.stale ∧ t.io = s.io

/-- A store to memory and nothing else, and pc is the next instruction's. -/
def storedOnly (p : Target) (n : Nat) (v : DWord) (s t : State) : Prop :=
  stored p n v s t ∧ t.pc = s.pc + 4 ∧ keepsGprs s t ∧ keepsFloat s t ∧ keepsSystem s t ∧ keepsTime s t ∧ keepsModel s t

/-- A floating-point instruction is there and enabled (R361). -/
abbrev floatReady (double : Bool) (s : State) : Prop :=
  s.cfg.fpLevel ≠ .none ∧ (s.cfg.fpLevel = .single → double = false) ∧ floatEnabled s = true

/-- The instruction is one of the floating-point ones: by its opcode (R202, R220). -/
def isFloat (i : Instr) : Bool :=
  op8 (encodeWord i) == 0x01 || op6 (encodeWord i) == 0x02 || op6 (encodeWord i) == 0x03 || op6 (encodeWord i) == 0x12 ||
  (op10 (encodeWord i)).extractLsb' 2 8 == 0x2b

/-- The instruction names a double or the upper half of a register: it is absent where only single precision is there (D5). -/
def namesDouble : Instr → Bool
  | .faddD .. | .fsubD .. | .fmulD .. | .fdivD .. | .fmaxD .. | .fminD .. | .fmaxaD .. | .fminaD .. => true
  | .fmaddD .. | .fmsubD .. | .fnmaddD .. | .fnmsubD .. | .fsqrtD .. | .frecipD .. | .frsqrtD .. => true
  | .fabsD .. | .fnegD .. | .fcopysignD .. | .fclassD .. | .fmovD .. => true
  | .fcmpCafD .. | .fcmpCunD .. | .fcmpCeqD .. | .fcmpCueqD .. | .fcmpCltD .. | .fcmpCultD .. | .fcmpCleD .. => true
  | .fcmpCuleD .. | .fcmpCneD .. | .fcmpCorD .. | .fcmpCuneD .. | .fcmpSafD .. | .fcmpSunD .. | .fcmpSeqD .. => true
  | .fcmpSueqD .. | .fcmpSltD .. | .fcmpSultD .. | .fcmpSleD .. | .fcmpSuleD .. | .fcmpSneD .. | .fcmpSorD .. => true
  | .fcmpSuneD .. | .fcvtSD .. | .fcvtDS .. | .ffintDW .. => true
  | .ftintWD .. | .ftintrmWD .. | .ftintrpWD .. | .ftintrzWD .. | .ftintrneWD .. => true
  | .movgr2frhW .. | .movfrh2grS .. | .fldD .. | .fstD .. => true
  | _ => false

/-! What a floating-point result has to be, over the real numbers: the statements about arithmetic are made in these words. -/

/-- A datum is finite and stands for the number `x` (R50, R51). -/
def standsFor {f : FpFormat} (v : BitVec f.width) (x : ℝ) : Prop :=
  ∃ neg m e, view v = .fin neg m e ∧ x = (if neg then -1 else 1) * m * 2 ^ e

/-- A datum stands for some number. -/
def isFinite {f : FpFormat} (v : BitVec f.width) : Prop := ∃ x, standsFor v x

/-- A datum is an infinity. -/
def isInfinity {f : FpFormat} (v : BitVec f.width) : Prop := ∃ neg, view v = .inf neg

/-- A product of two data is infinite, with the sign `neg`. -/
def infiniteProduct {f : FpFormat} (x y : BitVec f.width) (neg : Bool) : Prop :=
  neg = (x.msb ^^ y.msb) ∧
  ((isInfinity x ∧ (isInfinity y ∨ ∃ b, b ≠ 0 ∧ standsFor y b)) ∨ (isInfinity y ∧ ∃ a, a ≠ 0 ∧ standsFor x a))

/-- One of two data is a zero, the other an infinity: their product is invalid (R371 (b)). -/
def zeroTimesInfinity {f : FpFormat} (x y : BitVec f.width) : Prop :=
  (isInfinity x ∧ standsFor y 0) ∨ (standsFor x 0 ∧ isInfinity y)

/-- The result is an infinity of a sign, with the exceptions `e`. -/
def infinite {f : FpFormat} (r : FpResult f.width) (neg : Bool) (e : BitVec 5) : Prop := view r.bits = .inf neg ∧ r.exc = e

/-- The result is the zero of a sign, without an exception. -/
def exactZero {f : FpFormat} (r : FpResult f.width) (neg : Bool) : Prop := view r.bits = .fin neg 0 f.qmin ∧ r.exc = 0

/-- The integer `n` is the magnitude `x` of a number of a sign, rounded in a mode (R364). -/
def roundsInteger (rm : RoundingMode) (neg : Bool) (x : ℝ) (n : Nat) : Prop :=
  match rm with
  | .nearestEven => |x - n| < 1 / 2 ∨ (|x - n| = 1 / 2 ∧ n % 2 = 0)
  | .towardZero => n ≤ x ∧ x < n + 1
  | .towardPositive => if neg then n ≤ x ∧ x < n + 1 else n - 1 < x ∧ x ≤ n
  | .towardNegative => if neg then n - 1 < x ∧ x ≤ n else n ≤ x ∧ x < n + 1

/-- The result of an invalid operation: the default NaN, with V alone (R365, R371). -/
def invalid {f : FpFormat} (r : FpResult f.width) : Prop := r = ⟨defaultNan f, 0x10⟩

/-- Rounding an overflow in a mode keeps the greatest finite number (R367). -/
def overflowStaysFinite (rm : RoundingMode) (neg : Bool) : Prop :=
  rm = .towardZero ∨ (rm = .towardPositive ∧ neg = true) ∨ (rm = .towardNegative ∧ neg = false)

/-- `r` is the nonzero number `x` rounded once, with its exceptions (R364, R367 to R370). `n` is `x` rounded to the format's
precision with unbounded exponent, in units of the last place, `k` the same with the least exponent the format has. Where `n` is
above the greatest finite number the result overflows; else it is `k`, I says whether that differs from `x`, and U whether `n` is
below the least normal number and the result inexact or the trap enabled. -/
def correctlyRounded (f : FpFormat) (env : FpEnv) (x : ℝ) (r : FpResult f.width) : Prop :=
  ∃ (neg : Bool) (top unit low : Int) (n k : Nat),
  (neg = true ↔ x < 0) ∧ (2 : ℝ) ^ top ≤ |x| ∧ |x| < 2 ^ (top + 1) ∧
  unit = top - f.fracBits ∧ low = max unit f.qmin ∧
  roundsInteger env.rm neg (|x| / 2 ^ unit) n ∧ roundsInteger env.rm neg (|x| / 2 ^ low) k ∧
  ((2 : ℝ) ^ (f.emax + 1) ≤ n * 2 ^ unit → r.exc = 0x05 ∧
    (overflowStaysFinite env.rm neg → view r.bits = .fin neg (2 ^ (f.fracBits + 1) - 1) (f.emax - f.fracBits)) ∧
    (¬ overflowStaysFinite env.rm neg → view r.bits = .inf neg)) ∧
  ((n : ℝ) * 2 ^ unit < 2 ^ (f.emax + 1) → r.exc.extractLsb' 2 3 = 0 ∧
    (∃ m e, view r.bits = .fin neg m e ∧ (m : ℝ) * 2 ^ e = k * 2 ^ low) ∧
    (r.exc.getLsbD 0 = true ↔ (k : ℝ) * 2 ^ low ≠ |x|) ∧
    (r.exc.getLsbD 1 = true ↔
      (n : ℝ) * 2 ^ unit < 2 ^ f.emin ∧ ((k : ℝ) * 2 ^ low ≠ |x| ∨ env.trapU = true)))

end Sys2Proof.Machine
end

