-- ==== Sys2Proof/Certificates/Slice0/Obligations.lean ====
section
/-! DEFINITION. The statements for the provers, each from the rules of spec/ its docstring cites. -/

open Sys2Proof Sys2Proof.Machine

/-- Decoding the bytes of a well-formed instruction gives it back (R202, R203, R220, 30_encoding.md). For every well-formed
instruction, with every operand at every value its encoding admits, decoding the bytes the encoder writes, whatever bytes
follow, answers that instruction and leaves those bytes. -/
def Obligations.DecodeOfEncode : Prop :=
  ∀ (i : Instr) (rest : List Byte), i.wellFormed = true → decode (encode i ++ rest) = .ok (i, rest)

/-- A word that decodes is the word of the instruction it decodes to (R202, R203, R232, R233, D2, 30_encoding.md). For every
32-bit word: if it decodes to an instruction, that instruction is well-formed and its encoding is the word. So no bit of a word
is ignored: must-be-zero bits are checked, which is the spec's decision D2 (log 14), and no two words decode to one instruction.
-/
def Obligations.EncodeOfDecode : Prop :=
  ∀ (w : Word) (i : Instr), decodeWord w = .ok i → encodeWord i = w ∧ i.wellFormed = true

/-- Words written out from the encoding tables decode to their instructions (R220, R205, R209, R210, R211). One word of each of
several families, written bit by bit from the spec, decodes to the instruction it stands for. -/
def Obligations.WrittenWordsDecode : Prop :=
  decodeWord 0b00000000000100000_00010_00001_00011 = .ok (.addW 3 1 2) ∧
  decodeWord 0b0000001010_111111111111_00000_00100 = .ok (.addiW 4 0 0xFFF) ∧
  decodeWord 0b0010100010_000000000100_00110_00101 = .ok (.ldW 5 6 4) ∧
  decodeWord 0b010111_1111111111111110_00001_00000 = .ok (.bne 1 0 0xFFFE) ∧
  decodeWord 0b010100_0000000000000000_0000000100 = .ok (.b 0x40000) ∧
  decodeWord 0b010010_1111111111111111_00_001_11111 = .ok (.bceqz 1 0x1FFFFF) ∧
  decodeWord 0b00000100_00000000000101_00001_00100 = .ok (.csrwr 4 5) ∧
  decodeWord 0b00000110010010011_00101_00100_00101 = .ok (.invtlb 5 4 5) ∧
  decodeWord 0b000011000001_00010_00010_00001_00_000 = .ok (.fcmpCltS 0 1 2)

/-- RDTIME words, FCMP words of another condition and BCEQZ words of another type name no instruction (R356, R416, R455, D26,
D28). The RDTIMEL.W words with both register fields nonzero and the RDTIMEH.W words with rj nonzero are told apart as RDTIME
words (the model then refuses them, log 36). FCMP words in either precision with one of the ten conditions the table lacks, and
words of the condition-flag branches with instr[9:8] = 2 or 3, are undefined, whatever their other fields hold. -/
def Obligations.WordsOfNoInstruction : Prop :=
  (∀ rd rj : Reg, rd ≠ 0 → rj ≠ 0 → decodeWord (enc2R 0x18 rj rd) = .error .rdtime) ∧
  (∀ rd rj : Reg, rj ≠ 0 → decodeWord (enc2R 0x19 rj rd) = .error .rdtime) ∧
  (∀ (cond fk fj : BitVec 5) (cd : CFlag),
    cond ∈ [0x12, 0x13, 0x16, 0x17, 0x1A, 0x1B, 0x1C, 0x1D, 0x1E, 0x1F] →
    decodeWord (enc4R 0x0C1 cond fk fj (flagSlot cd)) = .error .undefined ∧
    decodeWord (enc4R 0x0C2 cond fk fj (flagSlot cd)) = .error .undefined) ∧
  (∀ (offs : BitVec 21) (kind : BitVec 2) (cj : CFlag), 2 ≤ kind.toNat →
    decodeWord (enc1RI21 0x12 offs kind cj) = .error .undefined)

/-- A step runs the instruction at the program counter (R132, R145, R550, R572, R576, R185, D9, D41, 20_memory.md). After the
boundary (what the outside world does between two instructions), in a state whose privilege level and translation mode are
defined, with the core running or an enabled source pending, with no interrupt taken now (none pending, or the input puts it
off), when the fetch reaches a place that is no device: where the word the fetch sees decodes to an instruction, the step is the
execution of that instruction in the state after the boundary, the core running. The step adds nothing after it. The word seen
is the one memory holds where the input chooses no older one or there is none at that address, and else one of the older words
at that address, each of which some choice shows. That a fetch may see an older word, and which one the input chooses, is the
spec's decision D41 as the model shows it (DESIGN CHOICE, log 34); that an input may put an interrupt off is its decision D9
(DESIGN CHOICE, log 12). The byte order is general knowledge in the spec (PRESUMED, log 63). -/
def Obligations.StepRunsDecodedInstruction : Prop :=
  (∀ (s : State) (p : Place) (i : Instr),
  (boundary s).defined →
  ((boundary s).waiting = true → pendingVector (boundary s) ≠ 0) →
  (interruptPending (boundary s) = true → (nextInput s).deferInterrupt = true) →
  fetchPlace (boundary s) = .ok p → p.kind ≠ .device →
  (decodeWord (seenWord (nextInput s).staleChoice p.target.pa (boundary s)) = .ok i →
    step s = exec i { boundary s with waiting := false }) ∧
  ((nextInput s).staleChoice = 0 ∨ (∀ w ∈ (boundary s).stale, w.addr ≠ p.target.pa) →
    decode [(boundary s).mem.byte p.target.pa, (boundary s).mem.byte (p.target.pa + 1),
      (boundary s).mem.byte (p.target.pa + 2), (boundary s).mem.byte (p.target.pa + 3)] = .ok (i, []) →
    step s = exec i { boundary s with waiting := false })) ∧
  (∀ (s : State) (choice pa : Nat),
    (choice = 0 ∨ (∀ w ∈ s.stale, w.addr ≠ pa) → seenWord choice pa s = s.mem.word pa) ∧
    (seenWord choice pa s = s.mem.word pa ∨ ∃ w ∈ s.stale, w.addr = pa ∧ w.word = seenWord choice pa s)) ∧
  (∀ (s : State) (w : StaleWord), w ∈ s.stale → ∃ choice, seenWord choice w.addr s = w.word)

/-- Between two instructions only time, interrupt lines and other agents act (R55, R56, R58, R138, R186, R571, R582, R337, R622,
D41, D42). The boundary of a step leaves the general registers, pc, floating-point state, every control and status register but
ESTAT, bits 1:0, 10 and 31:13 of ESTAT, the TLB, the recorded LL address, the waiting state and the parameters as they are. It
performs the stores of other agents that its input lists, one after another; a lost reservation clears LLbit; it lets the clock
tick as often as the input says, which moves the Stable Counter, the timer and bit 11 of ESTAT as that many ticks do
(ClockTick); it puts the levels of the interrupt lines into ESTAT, moves to the next input and draws a fresh free value. A store
of another agent is a byte, a halfword or a word, naturally aligned around its address. It ends the reservation of its word,
whatever is there. To RAM it changes exactly its bytes of memory, the lowest first, all at once, and leaves the word as it was
to fetches: a fetch of that word sees what it could see before or the whole word as it now stands, never a part of the store,
and a fetch of any other aligned word sees what it saw. An IBAR, with no CACOP, then ends every older word of that word. A store
elsewhere changes nothing more. That a fetch may see the old word until then is the spec's decision D41, and that older words
this core had stored there itself also need only the IBAR is DEDUCED (log 34); that the reservation is of an aligned word is its
decision D42 (log 43); the byte order is general knowledge in the spec (PRESUMED, log 63). That the outside world acts through
this list of inputs is the model's choice (log 10, 11, 58). -/
def Obligations.BoundaryFrame : Prop :=
  (∀ s : State,
  (boundary s).gpr = s.gpr ∧ (boundary s).pc = s.pc ∧ keepsFloat s (boundary s) ∧
  { (boundary s).csr with estat := s.csr.estat } = s.csr ∧
  (boundary s).csr.estat &&& 0xFFFFE403 = s.csr.estat &&& 0xFFFFE403 ∧
  (boundary s).csr.estat.extractLsb' 2 8 = (nextInput s).hwi ∧ (boundary s).csr.estat.getLsbD 12 = (nextInput s).ipi ∧
  (boundary s).csr.estat.getLsbD 11 = (ticks (nextInput s).ticks s).csr.estat.getLsbD 11 ∧
  (boundary s).timerVal = (ticks (nextInput s).ticks s).timerVal ∧
  (boundary s).timerRun = (ticks (nextInput s).ticks s).timerRun ∧
  (boundary s).counter = s.counter + BitVec.ofNat 64 (nextInput s).ticks ∧
  (boundary s).tlb = s.tlb ∧ (boundary s).lladdr = s.lladdr ∧ (boundary s).waiting = s.waiting ∧
  (boundary s).cfg = s.cfg ∧ (boundary s).io = s.io ∧
  (boundary s).inputs = s.inputs.tail ∧ (boundary s).draws = s.draws + 1 ∧
  (boundary s).mem = (agentStores (nextInput s).agentStores s).mem ∧
  (boundary s).stale = (agentStores (nextInput s).agentStores s).stale ∧
  (boundary s).llbit = ((agentStores (nextInput s).agentStores s).llbit && !(nextInput s).loseReservation)) ∧
  (∀ s : State, ticks 0 s = s ∧ (∀ n, ticks (n + 1) s = ticks n (tick s)) ∧
    agentStores [] s = s ∧ ∀ c cs, agentStores (c :: cs) s = agentStores cs (agentStore c s)) ∧
  (∀ (s t : State) (c : AgentStore) (n : Nat), t = agentStore c s →
    (c.size, n) ∈ [(StoreSize.byte, 1), (.halfword, 2), (.word, 4)] →
    c.pa % n = 0 ∧ c.pa ≤ c.addr ∧ c.addr < c.pa + n ∧
    (c.pa / 4 = s.lladdr / 4 → t.llbit = false) ∧
    (regionKind c.pa s ≠ .ram → t = { s with llbit := if c.pa / 4 = s.lladdr / 4 then false else s.llbit }) ∧
    (regionKind c.pa s = .ram → s.mem.wf →
      (∀ i, i < n → t.mem.byte (c.pa + i) = c.value.extractLsb' (8 * i) 8) ∧
      (∀ a, a < c.pa ∨ c.pa + n ≤ a → t.mem.byte a = s.mem.byte a) ∧
      t = { s with
        mem := t.mem, llbit := if c.pa / 4 = s.lladdr / 4 then false else s.llbit
        stale := ⟨c.pa / 4 * 4, s.mem.word (c.pa / 4 * 4), .invalidated⟩ :: s.stale.map fun w =>
          if w.addr = c.pa / 4 * 4 then { w with stage := .invalidated } else w } ∧
      (∀ level : BitVec 15, completes (.ibar level) t fun u =>
        ∀ choice, seenWord choice (c.pa / 4 * 4) u = t.mem.word (c.pa / 4 * 4)) ∧
      ∀ choice pa : Nat, pa % 4 = 0 →
        (pa = c.pa / 4 * 4 → seenWord choice pa t = t.mem.word pa ∨ ∃ k, seenWord choice pa t = seenWord k pa s) ∧
        (pa ≠ c.pa / 4 * 4 → seenWord choice pa t = seenWord choice pa s)))

/-- Every step keeps the invariant (R9, R31, R47, R57, R67, R130, R161). From every state of which the invariant holds, a step
that goes on leads to a state of which it holds: the parameters are in the ranges the spec gives them; r0 holds 0; memory is in
its canonical form; the reserved bits of every control and status register and of fcsr0 are 0; the timer fits its width; the TLB
has its number of entries, and every non-empty one has a supported page size. -/
def Obligations.InvariantKept : Prop :=
  ∀ s t : State, s.Inv → step s = .next t → t.Inv

/-- The state after reset satisfies the invariant (R110, R601, R611). The invariant of InvariantKept holds of the machine right
after reset, and after a reset over any state with parameters in their ranges, memory in its form, a timer of its width and the
TLB's number of entries, supported or emptied. Reset keeps the parameters and the number of TLB entries; it empties every entry
where the implementation resets its TLB, and leaves the TLB as it was where it does not. The values of the registers the spec
leaves unspecified are the model's (log 1 to 7, 68). -/
def Obligations.ResetSatisfiesInvariant : Prop :=
  State.reset.Inv ∧
  ∀ u : State, (State.resetFrom u).cfg = u.cfg ∧ (State.resetFrom u).tlb.length = u.tlb.length ∧
    (u.cfg.tlbReset = true → ∀ e ∈ (State.resetFrom u).tlb, e.e = false) ∧
    (u.cfg.tlbReset = false → (State.resetFrom u).tlb = u.tlb) ∧
    (u.cfg.wf = true → u.mem.wf → onlyBits u.timerVal (lowMask u.cfg.timerN) → u.tlb.length = u.cfg.tlbEntries →
      (u.cfg.tlbReset = true ∨ u.tlbSupported) → (State.resetFrom u).Inv)

/-- No step changes the implementation's parameters or the number of TLB entries (R9, R57, R78). A step that goes on keeps the
parameters the implementation fixes, the length of the TLB, and, with them, the value CPUID reads as. -/
def Obligations.ParametersKept : Prop :=
  ∀ s t : State, step s = .next t → t.cfg = s.cfg ∧ t.tlb.length = s.tlb.length ∧ csrRead 0x20 t = csrRead 0x20 s

/-- What reset defines (R110). Over any state that supplies what the manual leaves unspecified, reset gives the values of the
table: pc, r0, CRMD, EUEN.FPE, ECFG.LIE, ESTAT.IS[1:0], TCFG.En, LLBCTL.KLO, the PLV bits of the windows, the Stable Counter,
the core running; reserved bits of the listed registers are 0; CPUID reads as CORE_ID and ASID.ASIDBITS as 10. The machine's
reset state is such a state. -/
def Obligations.ResetState : Prop :=
  (∀ u : State, (State.resetFrom u).pc = 0x1C000000 ∧ gprGet 0 (State.resetFrom u) = 0 ∧
    (State.resetFrom u).csr.crmd = 0x00000008 ∧ (State.resetFrom u).csr.euen = 0 ∧ (State.resetFrom u).csr.ecfg = 0 ∧
    (State.resetFrom u).csr.estat.extractLsb' 0 2 = 0 ∧ (State.resetFrom u).csr.tcfg.getLsbD 0 = false ∧
    (State.resetFrom u).csr.llbctl.getLsbD 2 = false ∧
    (State.resetFrom u).csr.dmw0.getLsbD 0 = false ∧ (State.resetFrom u).csr.dmw0.getLsbD 3 = false ∧
    (State.resetFrom u).csr.dmw1.getLsbD 0 = false ∧ (State.resetFrom u).csr.dmw1.getLsbD 3 = false ∧
    (State.resetFrom u).counter = 0 ∧ (State.resetFrom u).waiting = false ∧ (State.resetFrom u).csrsReserved ∧
    (u.cfg.absentCsrs = [] → csrRead 0x20 (State.resetFrom u) = u.cfg.coreId.setWidth 32 ∧
      (csrRead 0x18 (State.resetFrom u)).extractLsb' 16 8 = 10)) ∧
  ∃ u, State.reset = State.resetFrom u

/-- ADD.W, SUB.W, ADDI.W, LU12I.W and PCADDU12I write sums modulo 2^32 (R251, R252, R253, R254, R259, D1). For every state and
operands each completes with the low 32 bits of the exact sum or difference in rd (nothing where rd is r0), pc at the next
instruction, and everything else as it was, every byte of memory included. LU12I.W writes si20 times 4096; PCADDU12I adds that
to the address of the instruction itself. That the sum with pc wraps is the spec's decision D1 (log 13). -/
def Obligations.AdditionResult : Prop :=
  ∀ (s : State) (rd rj rk : Reg) (si12 : BitVec 12) (si20 : BitVec 20),
  completes (.addW rd rj rk) s (wroteGpr rd (BitVec.ofNat 32 ((gprGet rj s).toNat + (gprGet rk s).toNat)) s) ∧
  completes (.subW rd rj rk) s (wroteGpr rd (BitVec.ofInt 32 ((gprGet rj s).toInt - (gprGet rk s).toInt)) s) ∧
  completes (.addiW rd rj si12) s (wroteGpr rd (BitVec.ofInt 32 ((gprGet rj s).toInt + si12.toInt)) s) ∧
  completes (.lu12iW rd si20) s (wroteGpr rd (BitVec.ofNat 32 (si20.toNat * 4096)) s) ∧
  completes (.pcaddu12i rd si20) s (wroteGpr rd (BitVec.ofNat 32 (s.pc.toNat + si20.toNat * 4096)) s)

/-- SLT, SLTU, SLTI and SLTUI write 1 or 0 (R255, R256, R257, R258). Each writes 1 where the first operand is less than the
second, as signed or unsigned integers, and 0 otherwise; the immediate is sign-extended in both immediate forms, and SLTUI then
compares it as unsigned. -/
def Obligations.CompareResult : Prop :=
  ∀ (s : State) (rd rj rk : Reg) (si12 : BitVec 12),
  completes (.slt rd rj rk) s (wroteGpr rd (if (gprGet rj s).toInt < (gprGet rk s).toInt then 1 else 0) s) ∧
  completes (.sltu rd rj rk) s (wroteGpr rd (if (gprGet rj s).toNat < (gprGet rk s).toNat then 1 else 0) s) ∧
  completes (.slti rd rj si12) s (wroteGpr rd (if (gprGet rj s).toInt < si12.toInt then 1 else 0) s) ∧
  completes (.sltui rd rj si12) s
    (wroteGpr rd (if ((gprGet rj s).toNat : Int) < si12.toInt % 4294967296 then 1 else 0) s)

/-- AND, OR, NOR, XOR, ANDI, ORI, XORI and NOP, bit by bit (R260, R261, R262, R263, R264, R265, R266, R267). Each writes a word
whose every bit is the operation of the operands' bits; the immediate forms extend with zeros. ANDI r0, r0, 0 changes pc only.
-/
def Obligations.LogicResult : Prop :=
  ∀ (s : State) (rd rj rk : Reg) (ui12 : BitVec 12),
  (∃ v : Word, (∀ k, k < 32 → v.getLsbD k = ((gprGet rj s).getLsbD k && (gprGet rk s).getLsbD k)) ∧
    completes (.and rd rj rk) s (wroteGpr rd v s)) ∧
  (∃ v : Word, (∀ k, k < 32 → v.getLsbD k = ((gprGet rj s).getLsbD k || (gprGet rk s).getLsbD k)) ∧
    completes (.or rd rj rk) s (wroteGpr rd v s)) ∧
  (∃ v : Word, (∀ k, k < 32 → v.getLsbD k = !((gprGet rj s).getLsbD k || (gprGet rk s).getLsbD k)) ∧
    completes (.nor rd rj rk) s (wroteGpr rd v s)) ∧
  (∃ v : Word, (∀ k, k < 32 → v.getLsbD k = ((gprGet rj s).getLsbD k != (gprGet rk s).getLsbD k)) ∧
    completes (.xor rd rj rk) s (wroteGpr rd v s)) ∧
  (∃ v : Word, (∀ k, k < 32 → v.getLsbD k = (decide (k < 12) && ((gprGet rj s).getLsbD k && ui12.getLsbD k))) ∧
    completes (.andi rd rj ui12) s (wroteGpr rd v s)) ∧
  (∃ v : Word, (∀ k, k < 32 → v.getLsbD k = ((gprGet rj s).getLsbD k || (decide (k < 12) && ui12.getLsbD k))) ∧
    completes (.ori rd rj ui12) s (wroteGpr rd v s)) ∧
  (∃ v : Word, (∀ k, k < 32 → v.getLsbD k = ((gprGet rj s).getLsbD k != (decide (k < 12) && ui12.getLsbD k))) ∧
    completes (.xori rd rj ui12) s (wroteGpr rd v s)) ∧
  exec (.andi 0 0 0) s = .next { s with pc := s.pc + 4 }

/-- The six shifts, bit by bit (R275, R276, R277, R278, R279, R280). Bit k of a left shift by sa is bit k - sa of the operand,
or 0 below; of a right shift bit k + sa, or above the top 0 for a logical one and the sign for an arithmetic one. sa is the low
five bits of rk or the five-bit immediate. -/
def Obligations.ShiftResult : Prop :=
  ∀ (s : State) (rd rj rk : Reg) (ui5 : BitVec 5),
  ∀ q ∈ [((gprGet rk s).toNat % 32, Instr.sllW rd rj rk, Instr.srlW rd rj rk, Instr.sraW rd rj rk),
         (ui5.toNat, Instr.slliW rd rj ui5, Instr.srliW rd rj ui5, Instr.sraiW rd rj ui5)],
  (∃ v : Word, (∀ k, k < 32 → v.getLsbD k = (decide (q.1 ≤ k) && (gprGet rj s).getLsbD (k - q.1))) ∧
    completes q.2.1 s (wroteGpr rd v s)) ∧
  (∃ v : Word, (∀ k, k < 32 → v.getLsbD k = (decide (k + q.1 < 32) && (gprGet rj s).getLsbD (k + q.1))) ∧
    completes q.2.2.1 s (wroteGpr rd v s)) ∧
  (∃ v : Word, (∀ k, k < 32 → v.getLsbD k = (gprGet rj s).getLsbD (if k + q.1 < 32 then k + q.1 else 31)) ∧
    completes q.2.2.2 s (wroteGpr rd v s))

/-- MUL.W, MULH.W and MULH.WU give the halves of the 64-bit product (R268, R269, R270). The word MUL.W writes, below the word
MULH.W writes, is the exact signed product; below the word MULH.WU writes it is the exact unsigned product. -/
def Obligations.MultiplyResult : Prop :=
  ∀ (s : State) (rd rj rk : Reg), ∃ low high highU : Word,
  high.toInt * 4294967296 + low.toNat = (gprGet rj s).toInt * (gprGet rk s).toInt ∧
  highU.toNat * 4294967296 + low.toNat = (gprGet rj s).toNat * (gprGet rk s).toNat ∧
  completes (.mulW rd rj rk) s (wroteGpr rd low s) ∧ completes (.mulhW rd rj rk) s (wroteGpr rd high s) ∧
  completes (.mulhWu rd rj rk) s (wroteGpr rd highU s)

/-- Quotient and remainder obey the division law (R281, R271, R272, R273, R274, D8, 40_integer.md). Each completes and changes
nothing but rd and pc. For a divisor other than 0, DIV.W and MOD.W write the low 32 bits of integers q and r with a = q*b + r,
|r| < |b| and r zero or of the sign of a; DIV.WU and MOD.WU the same for unsigned operands. That quotients truncate toward zero
is general knowledge in the spec (log 51). For a divisor of 0 rd holds some word, of which nothing is known (log 20). -/
def Obligations.DivideResult : Prop :=
  ∀ (s : State) (rd rj rk : Reg),
  (gprGet rk s ≠ 0 → ∃ q r : Int, (gprGet rj s).toInt = q * (gprGet rk s).toInt + r ∧ r.natAbs < (gprGet rk s).toInt.natAbs ∧
    (r = 0 ∨ (r < 0 ↔ (gprGet rj s).toInt < 0)) ∧
    completes (.divW rd rj rk) s (wroteGpr rd (BitVec.ofInt 32 q) s) ∧
    completes (.modW rd rj rk) s (wroteGpr rd (BitVec.ofInt 32 r) s)) ∧
  (gprGet rk s ≠ 0 → ∃ q r : Nat, (gprGet rj s).toNat = q * (gprGet rk s).toNat + r ∧ r < (gprGet rk s).toNat ∧
    completes (.divWu rd rj rk) s (wroteGpr rd (BitVec.ofNat 32 q) s) ∧
    completes (.modWu rd rj rk) s (wroteGpr rd (BitVec.ofNat 32 r) s)) ∧
  (gprGet rk s = 0 → ∀ i ∈ [Instr.divW rd rj rk, Instr.modW rd rj rk, Instr.divWu rd rj rk, Instr.modWu rd rj rk],
    ∃ v : Word, completes i s (wroteGpr rd v s))

/-- The conditional branches change pc only (R300, R301, R302, R303, R304, R305, R306, R455, R456, R38, D1). Each goes to its
own address plus four times the signed offset where its comparison holds and to the next instruction otherwise; the state is the
same in all else. BCEQZ and BCNEZ, where floating point is available, compare a condition flag with 0. That targets wrap modulo
2^32 is the spec's decision D1 (log 13). -/
def Obligations.ConditionalBranchResult : Prop :=
  ∀ (s : State) (rj rd : Reg) (offs : BitVec 16) (cj : CFlag) (offs21 : BitVec 21),
  (∀ q ∈ [(Instr.beq rj rd offs, decide ((gprGet rj s).toNat = (gprGet rd s).toNat)),
         (Instr.bne rj rd offs, decide ((gprGet rj s).toNat ≠ (gprGet rd s).toNat)),
         (Instr.blt rj rd offs, decide ((gprGet rj s).toInt < (gprGet rd s).toInt)),
         (Instr.bge rj rd offs, decide ((gprGet rd s).toInt ≤ (gprGet rj s).toInt)),
         (Instr.bltu rj rd offs, decide ((gprGet rj s).toNat < (gprGet rd s).toNat)),
         (Instr.bgeu rj rd offs, decide ((gprGet rd s).toNat ≤ (gprGet rj s).toNat))],
  exec q.1 s = .next { s with pc := BitVec.ofInt 32 (s.pc.toInt + if q.2 then 4 * offs.toInt else 4) }) ∧
  (floatReady false s →
    exec (.bceqz cj offs21) s = .next { s with
      pc := BitVec.ofInt 32 (s.pc.toInt + if cfGet cj s = false then 4 * offs21.toInt else 4) } ∧
    exec (.bcnez cj offs21) s = .next { s with
      pc := BitVec.ofInt 32 (s.pc.toInt + if cfGet cj s = true then 4 * offs21.toInt else 4) })

/-- B, BL and JIRL go to their targets and write their links (R307, R308, R311, R313, D1, D46, 41_branch.md). B goes to its
address plus four times the signed offset and writes nothing. BL does and writes the address after it to r1. JIRL goes to the
old value of rj plus four times its offset and writes the address after it to rd (nothing where rd is r0), also where rd is rj
(the spec's decision D46, log 48). Targets and links wrap modulo 2^32 (decision D1, log 13). All else is kept. -/
def Obligations.JumpResult : Prop :=
  ∀ (s : State) (rd rj : Reg) (offs : BitVec 16) (far : BitVec 26),
  exec (.b far) s = .next { s with pc := BitVec.ofInt 32 (s.pc.toInt + 4 * far.toInt) } ∧
  completes (.bl far) s (fun t => t.pc = BitVec.ofInt 32 (s.pc.toInt + 4 * far.toInt) ∧
    wroteGpr 1 (s.pc + 4) s { t with pc := s.pc + 4 }) ∧
  completes (.jirl rd rj offs) s (fun t => t.pc = BitVec.ofInt 32 ((gprGet rj s).toInt + 4 * offs.toInt) ∧
    wroteGpr rd (s.pc + 4) s { t with pc := s.pc + 4 })

/-- The integer loads deliver the bytes at the translated address (R132, R320, R321, R322, R323, R324, R325, D1,
42_memory_access.md). The effective address is the base register plus the signed immediate modulo 2^32. Where the access reaches
a place that is no device, LD.B and LD.H write the sign-extended, LD.BU and LD.HU the zero-extended little-endian byte or
halfword there, LD.W the word; nothing else changes but pc. A load into r0 still completes and writes nothing. (Loads from a
device are in DeviceAccess.) That the address wraps is the spec's decision D1 (DESIGN CHOICE, log 13). The byte order is general
knowledge in the spec (PRESUMED, log 63). -/
def Obligations.LoadResult : Prop :=
  ∀ (s : State) (rd rj : Reg) (si12 : BitVec 12) (p : Place), p.kind ≠ .device →
  address12 rj si12 s = BitVec.ofInt 32 ((gprGet rj s).toInt + si12.toInt) ∧
  (locate .load 1 (address12 rj si12 s) s = .ok p →
    completes (.ldB rd rj si12) s (wroteGpr rd (BitVec.ofInt 32 (s.mem.byte p.target.pa).toInt) s) ∧
    completes (.ldBu rd rj si12) s (wroteGpr rd (BitVec.ofNat 32 (s.mem.byte p.target.pa).toNat) s)) ∧
  (locate .load 2 (address12 rj si12 s) s = .ok p →
    completes (.ldH rd rj si12) s
      (wroteGpr rd (BitVec.ofInt 32 (s.mem.byte (p.target.pa + 1) ++ s.mem.byte p.target.pa).toInt) s) ∧
    completes (.ldHu rd rj si12) s
      (wroteGpr rd (BitVec.ofNat 32 (s.mem.byte (p.target.pa + 1) ++ s.mem.byte p.target.pa).toNat) s)) ∧
  (locate .load 4 (address12 rj si12 s) s = .ok p →
    completes (.ldW rd rj si12) s (wroteGpr rd (s.mem.byte (p.target.pa + 3) ++ s.mem.byte (p.target.pa + 2) ++
      s.mem.byte (p.target.pa + 1) ++ s.mem.byte p.target.pa) s))

/-- The integer stores write their bytes and no others (R132, R320, R326, R327, R328, R185, D41, 42_memory_access.md). Where the
access reaches RAM, ST.B, ST.H and ST.W put the low one, two or four bytes of rd at the translated address, the lowest byte
first; every other byte of memory and everything else is as it was, but pc and what a later fetch may still see: each aligned
word the store touches, as it was before (the spec's decision D41, log 34). Memory is in its canonical form, an invariant of
every step (InvariantKept). The byte order is general knowledge in the spec (PRESUMED, log 63). -/
def Obligations.StoreResult : Prop :=
  (∀ (s : State) (rd rj : Reg) (si12 : BitVec 12), s.mem.wf →
  ∀ q ∈ [(Instr.stB rd rj si12, 1), (Instr.stH rd rj si12, 2), (Instr.stW rd rj si12, 4)],
  ∀ p : Place, locate .store q.2 (address12 rj si12 s) s = .ok p → p.kind = .ram →
    completes q.1 s (storedOnly p.target q.2 ((gprGet rd s).setWidth 64) s)) ∧
  (∀ (m : Memory) (pa n : Nat) (stage : SyncStage), n ∈ [1, 2, 4, 8] → pa % n = 0 →
    (staleWords m pa n stage).length = (n + 3) / 4 ∧
    ∀ w : StaleWord, w ∈ staleWords m pa n stage ↔
      w.stage = stage ∧ w.word = m.word w.addr ∧ w.addr % 4 = 0 ∧ w.addr < pa + n ∧ pa < w.addr + 4)

/-- Accesses to a device deliver what is recorded and change no memory (R140, R143, R320, R321, R322, R323, R324, R325, R460,
R461, D45, D24). A load that reaches a device completes: the device answers some datum of the access's width, of which nothing
else is known, the access is recorded in program order with its address, width and that datum, and memory is as it was. LD.B and
LD.H write the datum sign-extended, LD.BU and LD.HU zero-extended, LD.W as it is; FLD.S puts it in the low half of fd, FLD.D in
fd; nothing else changes but pc. A store records the low bytes of its register. A store to what the platform calls ROM is
refused. That devices are recorded this way, exactly once whatever the access type, and that ROM refuses, is the model's choice
(log 9, 64). -/
def Obligations.DeviceAccess : Prop :=
  ∀ (s : State) (rd rj : Reg) (fd : FReg) (si12 : BitVec 12) (p : Place),
  (p.kind = .device → ∀ q ∈ [(Instr.ldB rd rj si12, 1, fun d : DWord => BitVec.ofInt 32 (BitVec.ofNat 8 d.toNat).toInt),
      (Instr.ldBu rd rj si12, 1, fun d => BitVec.ofNat 32 d.toNat),
      (Instr.ldH rd rj si12, 2, fun d => BitVec.ofInt 32 (BitVec.ofNat 16 d.toNat).toInt),
      (Instr.ldHu rd rj si12, 2, fun d => BitVec.ofNat 32 d.toNat), (Instr.ldW rd rj si12, 4, fun d => BitVec.ofNat 32 d.toNat)],
    locate .load q.2.1 (address12 rj si12 s) s = .ok p →
    ∃ d : DWord, d.toNat < 2 ^ (8 * q.2.1) ∧ completes q.1 s fun t =>
      t.io = ⟨false, p.target.pa, q.2.1, d⟩ :: s.io ∧ wroteGpr rd (q.2.2 d) s { t with io := s.io }) ∧
  (p.kind = .device → floatReady false s → locate .load 4 (address12 rj si12 s) s = .ok p →
    ∃ d : DWord, d.toNat < 2 ^ 32 ∧ completes (.fldS fd rj si12) s fun t =>
      t.io = ⟨false, p.target.pa, 4, d⟩ :: s.io ∧ t.fcsr0 = s.fcsr0 ∧
      wroteSingle fd (BitVec.ofNat 32 d.toNat) s { t with io := s.io }) ∧
  (p.kind = .device → floatReady true s → locate .load 8 (address12 rj si12 s) s = .ok p →
    ∃ d : DWord, completes (.fldD fd rj si12) s fun t =>
      t.io = ⟨false, p.target.pa, 8, d⟩ :: s.io ∧ t.fcsr0 = s.fcsr0 ∧ wroteDouble fd d s { t with io := s.io }) ∧
  (∀ q ∈ [(Instr.stB rd rj si12, 1, ((gprGet rd s).setWidth 64 : DWord), (none : Option Bool)),
      (Instr.stH rd rj si12, 2, (gprGet rd s).setWidth 64, none), (Instr.stW rd rj si12, 4, (gprGet rd s).setWidth 64, none),
      (Instr.fstS fd rj si12, 4, (fprGetW fd s).setWidth 64, some false), (Instr.fstD fd rj si12, 8, fprGet fd s, some true)],
    (∀ d, q.2.2.2 = some d → floatReady d s) → locate .store q.2.1 (address12 rj si12 s) s = .ok p →
    (p.kind = .device → exec q.1 s = .next { s with
      pc := s.pc + 4, io := ⟨true, p.target.pa, q.2.1, BitVec.ofNat 64 (q.2.2.1.toNat % 2 ^ (8 * q.2.1))⟩ :: s.io }) ∧
    (p.kind = .rom → exec q.1 s = .refused (.storeToRom p.target.pa)))

/-- A misaligned access raises ALE, an aligned one what its translation raises (R135, R139, R143, R320, R335, R336, R543, R551,
R564, D6, D10, D24). Every load or store whose effective address is no multiple of its size takes ALE with that address,
whatever its translation would give. An aligned one whose translation raises an exception takes exactly that exception, with no
other effect: no register, byte of memory or LLbit is changed (the spec's decision D10, log 21). SC.W does both whatever LLbit
is (decision D6, log 18). Where the translation is refused so is the access; a reserved access type is refused (log 24), and
where the platform has nothing at the address a load or store is refused (the spec's decision D24, log 9; of LL.W and SC.W,
ReservationPairResult says when). The floating-point ones where they are available. -/
def Obligations.AccessException : Prop :=
  ∀ (s : State) (rd rj : Reg) (fd : FReg) (si12 : BitVec 12) (si14 : BitVec 14),
  ∀ q ∈ [(Instr.ldB rd rj si12, AccessKind.load, 1, address12 rj si12 s, (none : Option Bool)),
      (.ldBu rd rj si12, .load, 1, address12 rj si12 s, none), (.ldH rd rj si12, .load, 2, address12 rj si12 s, none),
      (.ldHu rd rj si12, .load, 2, address12 rj si12 s, none), (.ldW rd rj si12, .load, 4, address12 rj si12 s, none),
      (.stB rd rj si12, .store, 1, address12 rj si12 s, none), (.stH rd rj si12, .store, 2, address12 rj si12 s, none),
      (.stW rd rj si12, .store, 4, address12 rj si12 s, none), (.llW rd rj si14, .load, 4, address14 rj si14 s, none),
      (.scW rd rj si14, .store, 4, address14 rj si14 s, none), (.fldS fd rj si12, .load, 4, address12 rj si12 s, some false),
      (.fldD fd rj si12, .load, 8, address12 rj si12 s, some true), (.fstS fd rj si12, .store, 4, address12 rj si12 s, some false),
      (.fstD fd rj si12, .store, 8, address12 rj si12 s, some true)],
  ∀ (k : AccessKind) (n : Nat) (va : Word), q.2.1 = k → q.2.2.1 = n → q.2.2.2.1 = va →
  (∀ d, q.2.2.2.2 = some d → floatReady d s) →
  (va.toNat % n ≠ 0 → exec q.1 s = .next (enter .ALE va s)) ∧
  (va.toNat % n = 0 →
    (∀ x w, translate k va s = .raise x w → exec q.1 s = .next (enter x w s)) ∧
    (∀ r, translate k va s = .refuse r → exec q.1 s = .refused r) ∧
    (∀ target, translate k va s = .ok target →
      (2 ≤ target.mat.toNat → exec q.1 s = .refused .reservedAccessType) ∧
      (target.mat.toNat < 2 → regionKind target.pa s = .nothing → q.1 ≠ .llW rd rj si14 → q.1 ≠ .scW rd rj si14 →
        exec q.1 s = .refused (.nothingAtAddress target.pa))))

/-- PRELD and DBAR change only pc; IBAR ends what fetches may still see (R329, R342, R343, R185, D23, D38, D41). PRELD with any
hint and address, and DBAR with any hint, change pc only. IBAR with any hint changes pc and forgets exactly the older words
whose cache lines were maintained or never cached, or that another agent's store settled (BoundaryFrame), and keeps every other:
after it a fetch of an address whose older words were all of that kind sees only what memory holds. These rest on choices: that
PRELD has no effect and that caches are no state on decision D23 (log 33); that DBAR has none on one core that performs its
accesses in order (log 19); that IBAR acts with any hint as with hint 0 on decision D38 (log 44); that a fetch may see older
words at all on decision D41, and that words never cached need IBAR alone is DEDUCED (log 34). -/
def Obligations.HintsAndBarriers : Prop :=
  ∀ (s : State) (hint : BitVec 5) (rj : Reg) (si12 : BitVec 12) (level : BitVec 15),
  exec (.preld hint rj si12) s = .next { s with pc := s.pc + 4 } ∧
  exec (.dbar level) s = .next { s with pc := s.pc + 4 } ∧
  completes (.ibar level) s (fun t => t = { s with pc := s.pc + 4, stale := t.stale } ∧
    (∀ w : StaleWord, w ∈ t.stale ↔ w ∈ s.stale ∧ w.stage ≠ .invalidated) ∧
    ∀ pa : Nat, (∀ w ∈ s.stale, w.addr = pa → w.stage = .invalidated) → ∀ choice, seenWord choice pa t = s.mem.word pa)

/-- LL.W sets LLbit and records the address; SC.W stores and answers 1 with LLbit, answers 0 without (R335, R336, R338, R150,
D1, D6, D24, 42_memory_access.md). The effective address of LL.W and SC.W is the base register plus four times si14, modulo 2^32
(decision D1, log 13). Where it translates to coherent cached memory: LL.W writes the word there to rd, sets LLbit and records
the physical address (log 43), and nothing else changes but pc; from a device it writes some word, of which nothing is known,
and the access is recorded with that word (log 64); where the platform has nothing it is refused (the spec's decision D24, log
9). With LLbit set and the address LL.W recorded, or one the implementation takes for it, SC.W stores the old value of rd and
then writes 1 to rd (to a device the store is recorded, to ROM, and where there is nothing, it is refused). With LLbit clear, or
an address the implementation tells apart, SC.W makes no access, whatever is there, and writes 0. LLbit afterwards is 0, or as
it was where the implementation does not clear it (decision D6, log 18; what counts as one line is log 66). All else is kept but
pc. Where the access type is not coherent cached both are refused (log 42). The byte order is general knowledge in the spec
(PRESUMED, log 63). -/
def Obligations.ReservationPairResult : Prop :=
  ∀ (s : State) (rd rj : Reg) (si14 : BitVec 14) (va : Word) (p : Target), s.mem.wf → va = address14 rj si14 s →
  va = BitVec.ofInt 32 ((gprGet rj s).toInt + 4 * si14.toInt) ∧
  (resolve .load 4 va s = .ok p →
    (p.mat ≠ 1 → exec (.llW rd rj si14) s = .refused .uncachedReservation) ∧
    (p.mat = 1 → regionKind p.pa s = .ram ∨ regionKind p.pa s = .rom → completes (.llW rd rj si14) s fun t =>
      t.llbit = true ∧ t.lladdr = p.pa ∧
      wroteGpr rd (s.mem.byte (p.pa + 3) ++ s.mem.byte (p.pa + 2) ++ s.mem.byte (p.pa + 1) ++ s.mem.byte p.pa) s
        { t with llbit := s.llbit, lladdr := s.lladdr }) ∧
    (p.mat = 1 → regionKind p.pa s = .device → ∃ d : DWord, d.toNat < 2 ^ 32 ∧ completes (.llW rd rj si14) s fun t =>
      t.llbit = true ∧ t.lladdr = p.pa ∧ t.io = ⟨false, p.pa, 4, d⟩ :: s.io ∧
      wroteGpr rd (BitVec.ofNat 32 d.toNat) s { t with llbit := s.llbit, lladdr := s.lladdr, io := s.io }) ∧
    (p.mat = 1 → regionKind p.pa s = .nothing → exec (.llW rd rj si14) s = .refused (.nothingAtAddress p.pa))) ∧
  (resolve .store 4 va s = .ok p →
    (p.mat ≠ 1 → exec (.scW rd rj si14) s = .refused .uncachedReservation) ∧
    (p.mat = 1 → s.llbit = true →
      (p.pa = s.lladdr ∨ s.cfg.scAddrCheck = .unchecked ∨ (s.cfg.scAddrCheck = .sameWord ∧ p.pa / 4 = s.lladdr / 4) ∨
      (s.cfg.scAddrCheck = .sameLine ∧ p.pa / 2 ^ s.cfg.dcache.offset = s.lladdr / 2 ^ s.cfg.dcache.offset)) →
      (regionKind p.pa s = .ram → completes (.scW rd rj si14) s fun t =>
        t.llbit = !s.cfg.scClearsLLbit ∧ stored p 4 ((gprGet rd s).setWidth 64) s t ∧
        wroteGpr rd 1 s { t with llbit := s.llbit, mem := s.mem, stale := s.stale }) ∧
      (regionKind p.pa s = .device → completes (.scW rd rj si14) s fun t =>
        t.llbit = !s.cfg.scClearsLLbit ∧ t.io = ⟨true, p.pa, 4, (gprGet rd s).setWidth 64⟩ :: s.io ∧
        wroteGpr rd 1 s { t with llbit := s.llbit, io := s.io }) ∧
      (regionKind p.pa s = .rom → exec (.scW rd rj si14) s = .refused (.storeToRom p.pa)) ∧
      (regionKind p.pa s = .nothing → exec (.scW rd rj si14) s = .refused (.nothingAtAddress p.pa))) ∧
    (p.mat = 1 → (s.llbit = false ∨ (s.cfg.scAddrCheck = .sameWord ∧ p.pa / 4 ≠ s.lladdr / 4) ∨
      (s.cfg.scAddrCheck = .sameLine ∧ p.pa / 2 ^ s.cfg.dcache.offset ≠ s.lladdr / 2 ^ s.cfg.dcache.offset)) →
      completes (.scW rd rj si14) s fun t =>
        t.llbit = (s.llbit && !s.cfg.scClearsLLbit) ∧ wroteGpr rd 0 s { t with llbit := s.llbit }))

/-- Direct mode maps every address to its low PALEN bits; a direct-mapped window that hits decides (R99, R145, R146, R155, R157,
R165, D21, 20_memory.md). With DA = 1 and PG = 0 every address translates, for every kind of access, at every privilege level,
to its low PALEN bits, with the access type of DATF for a fetch and DATM otherwise; that no address is out of range for this is
log 60. In mapped mode, where an implemented window has the address's top three bits and is open at the privilege level, and
every other window that hits gives the same result, the address translates to PSEG above its low 29 bits, cut to PALEN bits,
with the window's access type, whatever the TLB holds. Where two windows hit with different results the access is refused (log
31). Which window exists where only one does is the model's choice (log 65). -/
def Obligations.DirectAndWindowTranslation : Prop :=
  (∀ (k : AccessKind) (va : Word) (s : State), s.csr.crmd.getLsbD 3 = true → s.csr.crmd.getLsbD 4 = false →
  translate k va s = .ok ⟨va.toNat % 2 ^ s.cfg.palen,
    if k = .fetch then s.csr.crmd.extractLsb' 5 2 else s.csr.crmd.extractLsb' 7 2⟩) ∧
  (∀ (k : AccessKind) (va : Word) (s : State) (w : Word), s.csr.crmd.getLsbD 3 = false → s.csr.crmd.getLsbD 4 = true →
  ((w = s.csr.dmw0 ∧ 1 ≤ s.cfg.dmwCount) ∨ (w = s.csr.dmw1 ∧ 2 ≤ s.cfg.dmwCount)) →
  va.toNat / 2 ^ 29 = w.toNat / 2 ^ 29 →
  ((s.csr.crmd.toNat % 4 = 0 ∧ w.getLsbD 0 = true) ∨ (s.csr.crmd.toNat % 4 = 3 ∧ w.getLsbD 3 = true)) →
  ((∀ v ∈ windows s, windowHit v (plv s) va = true → windowTarget v va s = windowTarget w va s) →
    translate k va s = .ok ⟨(w.toNat / 2 ^ 25 % 8 * 2 ^ 29 + va.toNat % 2 ^ 29) % 2 ^ s.cfg.palen, w.extractLsb' 4 2⟩) ∧
  ((∃ v ∈ windows s, windowHit v (plv s) va = true ∧ windowTarget v va s ≠ windowTarget w va s) →
    translate k va s = .refuse .conflictingWindows))

/-- TLB translation: the match, the page, the order of its checks, the refill (R160, R161, R162, R163, R557, R562,
20_memory.md). An entry matches when it is non-empty, global or of the address space, and agrees with the address in the bits
above its page pair: bits 31:13 for a 4 KB page, bits 31:22 for a 4 MB page. In mapped mode with no window hit: with no matching
entry the access raises TLBR. With exactly one, of a supported page size, the bit at the page size picks the even or odd page; a
page not valid raises PIF, PIL or PIS by the kind of access, then a level above the page's raises PPI, then a store to a clean
page raises PME, each with the address; else the physical address is the page number above the offset, cut to PALEN bits, with
the page's access type. Two matching entries are refused (log 30). -/
def Obligations.TlbTranslation : Prop :=
  (∀ (e : TlbEntry) (asid : BitVec 10) (va : Word),
  (e.ps = 12 → (tlbMatch e asid va = true ↔
    e.e = true ∧ (e.g = true ∨ e.asid = asid) ∧ e.vppn.toNat = va.toNat / 2 ^ 13)) ∧
  (e.ps = 21 → (tlbMatch e asid va = true ↔
    e.e = true ∧ (e.g = true ∨ e.asid = asid) ∧ e.vppn.toNat / 2 ^ 9 = va.toNat / 2 ^ 22))) ∧
  ∀ (k : AccessKind) (va : Word) (s : State), s.csr.crmd.getLsbD 3 = false → s.csr.crmd.getLsbD 4 = true →
  (∀ w ∈ windows s, windowHit w (plv s) va = false) →
  ((∀ e ∈ s.tlb, tlbMatch e (s.csr.asid.extractLsb' 0 10) va = false) → translate k va s = .raise .TLBR va) ∧
  (∀ (e : TlbEntry) (page : TlbPage), s.tlb.filter (fun e => tlbMatch e (s.csr.asid.extractLsb' 0 10) va) = [e] →
    (e.ps = 12 ∨ e.ps = 21) →
    page = (if va.toNat / 2 ^ e.ps.toNat % 2 = 1 then e.page1 else e.page0) →
    (page.v = false → translate k va s =
      .raise (match k with | .fetch => .PIF | .load => .PIL | .store => .PIS) va) ∧
    (page.v = true → page.plv.toNat < s.csr.crmd.toNat % 4 → translate k va s = .raise .PPI va) ∧
    (page.v = true → s.csr.crmd.toNat % 4 ≤ page.plv.toNat → k = .store → page.d = false →
      translate k va s = .raise .PME va) ∧
    (page.v = true → s.csr.crmd.toNat % 4 ≤ page.plv.toNat → (k = .store → page.d = true) →
      translate k va s = .ok ⟨(if e.ps = 12 then page.ppn.toNat * 2 ^ 12 + va.toNat % 2 ^ 12
        else page.ppn.toNat / 2 ^ 9 * 2 ^ 21 + va.toNat % 2 ^ 21) % 2 ^ s.cfg.palen, page.mat⟩)) ∧
  (∀ e f rest, s.tlb.filter (fun e => tlbMatch e (s.csr.asid.extractLsb' 0 10) va) = e :: f :: rest →
    translate k va s = .refuse .multipleTlbHit)

/-- What taking an exception writes and what it keeps (R540, 60_exceptions.md). Entry saves PLV and IE in PRMD, clears them in
CRMD, puts the pc of the instruction in ERA, Ecode and EsubCode in ESTAT, for the listed exceptions the address in BADV and in
TLBEHI.VPPN, and goes to EENTRY, or, for a TLB refill, with DA set and PG cleared, to TLBRENTRY. Every other field and
everything else is as it was. The sixteen exceptions have the codes of the table. -/
def Obligations.ExceptionEntry : Prop :=
  ([Exc.INT, .PIL, .PIS, .PIF, .PME, .PPI, .ADEF, .ADEM, .ALE, .SYS, .BRK, .INE, .IPE, .FPD, .FPE, .TLBR].map
    (fun x => (x.ecode.toNat, x.esubcode.toNat)) =
  [(0, 0), (1, 0), (2, 0), (3, 0), (4, 0), (7, 0), (8, 0), (8, 1), (9, 0), (0xB, 0), (0xC, 0), (0xD, 0), (0xE, 0),
    (0xF, 0), (0x12, 0), (0x3F, 0)]) ∧
  ∀ (x : Exc) (va : Word) (s t : State), t = enter x va s →
  t.csr.prmd.extractLsb' 0 3 = s.csr.crmd.extractLsb' 0 3 ∧ t.csr.prmd.extractLsb' 3 29 = s.csr.prmd.extractLsb' 3 29 ∧
  t.csr.crmd.extractLsb' 0 3 = 0 ∧ t.csr.crmd.extractLsb' 5 27 = s.csr.crmd.extractLsb' 5 27 ∧
  t.csr.crmd.extractLsb' 3 2 = (if x = .TLBR then 1 else s.csr.crmd.extractLsb' 3 2) ∧
  t.csr.era = s.pc ∧
  t.csr.estat.extractLsb' 16 6 = x.ecode ∧ t.csr.estat.extractLsb' 22 9 = x.esubcode ∧
  t.csr.estat.extractLsb' 0 16 = s.csr.estat.extractLsb' 0 16 ∧ t.csr.estat.getLsbD 31 = s.csr.estat.getLsbD 31 ∧
  t.csr.badv = (if x ∈ [.TLBR, .ADEF, .ALE, .PIL, .PIS, .PIF, .PME, .PPI] then va else s.csr.badv) ∧
  t.csr.tlbehi.extractLsb' 0 13 = s.csr.tlbehi.extractLsb' 0 13 ∧
  t.csr.tlbehi.extractLsb' 13 19 =
    (if x ∈ [.TLBR, .PIL, .PIS, .PIF, .PME, .PPI] then va.extractLsb' 13 19 else s.csr.tlbehi.extractLsb' 13 19) ∧
  t.pc.extractLsb' 0 6 = 0 ∧
  t.pc.extractLsb' 6 26 = (if x = .TLBR then s.csr.tlbrentry else s.csr.eentry).extractLsb' 6 26 ∧
  t = { s with pc := t.pc, csr := { s.csr with
    prmd := t.csr.prmd, crmd := t.csr.crmd, era := t.csr.era, estat := t.csr.estat, badv := t.csr.badv, tlbehi := t.csr.tlbehi } }

/-- What ERTN restores (R498). At PLV0 ERTN puts PPLV and PIE back into CRMD, after a TLB refill clears DA and sets PG, clears
LLbit unless KLO is 1, clears KLO, and goes to ERA. Nothing else changes. At any other level it takes IPE. -/
def Obligations.ExceptionReturnResult : Prop :=
  ∀ s : State,
  (s.csr.crmd.extractLsb' 0 2 ≠ 0 → exec .ertn s = .next (enter .IPE 0 s)) ∧
  (s.csr.crmd.extractLsb' 0 2 = 0 → completes .ertn s fun t =>
  t.pc = s.csr.era ∧ t.csr.crmd.extractLsb' 0 3 = s.csr.prmd.extractLsb' 0 3 ∧
  t.csr.crmd.extractLsb' 3 2 = (if s.csr.estat.extractLsb' 16 6 = 0x3F then 2 else s.csr.crmd.extractLsb' 3 2) ∧
  t.csr.crmd.extractLsb' 5 27 = s.csr.crmd.extractLsb' 5 27 ∧
  t.llbit = (if s.csr.llbctl.getLsbD 2 = true then s.llbit else false) ∧
  t.csr.llbctl.getLsbD 2 = false ∧ t.csr.llbctl &&& 0xFFFFFFFB = s.csr.llbctl &&& 0xFFFFFFFB ∧
  t = { s with pc := t.pc, llbit := t.llbit, csr := { s.csr with crmd := t.csr.crmd, llbctl := t.csr.llbctl } })

/-- Returning at once from an exception resumes where it was taken (R498, R540, R541, R545). The return right after an entry
goes back to the pc and to the whole of CRMD of before: privilege level, interrupt enable and translation mode. For a TLB refill
the mode before must be the mapped one, the only one it arises in. -/
def Obligations.EnterThenReturn : Prop :=
  ∀ (x : Exc) (va : Word) (s : State),
  (x = .TLBR → s.csr.crmd.getLsbD 3 = false ∧ s.csr.crmd.getLsbD 4 = true) →
  (exceptionReturn (enter x va s)).pc = s.pc ∧ (exceptionReturn (enter x va s)).csr.crmd = s.csr.crmd ∧
  keepsGprs s (exceptionReturn (enter x va s)) ∧ keepsFloat s (exceptionReturn (enter x va s)) ∧
  (exceptionReturn (enter x va s)).mem = s.mem ∧ (exceptionReturn (enter x va s)).tlb = s.tlb

/-- SYSCALL and BREAK take their exceptions, and the counter reads write a register, at either level (R350, R351, R352, R353,
R354, R553, R554, D43). Whatever the state and the code, SYSCALL takes SYS and BREAK takes BRK, with ERA the address of the
instruction itself, BADV and TLBEHI as they were, and no register written: the code is recorded nowhere, which is the spec's
decision D43 (log 47, DESIGN CHOICE), not the manual's word. RDCNTVL.W and RDCNTVH.W write the low and the high word of the
Stable Counter, RDCNTID the Counter ID, at either level; nothing else changes but pc. -/
def Obligations.SystemCallAndCounterResult : Prop :=
  (∀ (s : State) (code : BitVec 15),
  exec (.syscall code) s = .next (enter .SYS 0 s) ∧ exec (.brk code) s = .next (enter .BRK 0 s) ∧
  completes (.syscall code) s (fun t => t.csr.era = s.pc ∧ t.csr.estat.extractLsb' 16 6 = 0xB ∧
    t.csr.badv = s.csr.badv ∧ t.csr.tlbehi = s.csr.tlbehi ∧ t.pc = s.csr.eentry &&& 0xFFFFFFC0 ∧ t.gpr = s.gpr ∧ t.mem = s.mem) ∧
  completes (.brk code) s (fun t => t.csr.era = s.pc ∧ t.csr.estat.extractLsb' 16 6 = 0xC ∧
    t.csr.badv = s.csr.badv ∧ t.csr.tlbehi = s.csr.tlbehi ∧ t.pc = s.csr.eentry &&& 0xFFFFFFC0 ∧ t.gpr = s.gpr ∧ t.mem = s.mem)) ∧
  (∀ (s : State) (rd rj : Reg),
  completes (.rdcntvlW rd) s (wroteGpr rd (BitVec.ofNat 32 s.counter.toNat) s) ∧
  completes (.rdcntvhW rd) s (wroteGpr rd (BitVec.ofNat 32 (s.counter.toNat / 2 ^ 32)) s) ∧
  completes (.rdcntid rj) s (wroteGpr rj s.csr.tid s))

/-- The privileged instructions raise IPE away from PLV0 (R480, R494, R565, D3, D14). At any level but PLV0 the eleven
privileged instructions take IPE and change nothing else, but for CACOP of the Hit class; INVTLB with an op above 6 takes INE,
at every level. That an undefined op is INE, and that it comes before IPE, are the spec's decisions D3 and D14 (log 15). -/
def Obligations.PrivilegedAtUserLevel : Prop :=
  ∀ (s : State) (rd rj rk : Reg) (n : BitVec 14) (code op : BitVec 5) (si12 : BitVec 12) (level : BitVec 15),
  (s.csr.crmd.extractLsb' 0 2 ≠ 0 →
    (∀ i ∈ [Instr.csrrd rd n, .csrwr rd n, .csrxchg rd rj n, .tlbsrch, .tlbrd, .tlbwr, .tlbfill, .ertn, .idle level],
      exec i s = .next (enter .IPE 0 s)) ∧
    (code.toNat / 8 ≠ 2 → exec (.cacop code rj si12) s = .next (enter .IPE 0 s)) ∧
    (code.toNat / 8 = 2 → exec (.cacop code rj si12) s ≠ .next (enter .IPE 0 s)) ∧
    (op.toNat ≤ 6 → exec (.invtlb op rj rk) s = .next (enter .IPE 0 s))) ∧
  (6 < op.toNat → exec (.invtlb op rj rk) s = .next (enter .INE 0 s))

/-- Away from PLV0 no instruction changes the system state but by an exception (R521, R522, R540, R480, 60_exceptions.md). For
every instruction, executed at any level but PLV0, that gives a next state: either the control and status registers and the TLB
are as they were, or the instruction took an exception and nothing but what entry writes changed, or it took FPE and before that
only Cause, in fcsr0, changed. So a program at PLV3 reaches PLV0 only through an exception. -/
def Obligations.UserLevelCannotTouchSystem : Prop :=
  ∀ (i : Instr) (s t : State), s.csr.crmd.extractLsb' 0 2 ≠ 0 → exec i s = .next t →
  (t.csr = s.csr ∧ t.tlb = s.tlb) ∨ (∃ (x : Exc) (va : Word), t = enter x va s) ∨
  t = enter .FPE 0 { s with fcsr0 := (s.fcsr0 &&& 0xE0FFFFFF) ||| (t.fcsr0 &&& 0x1F000000) }

/-- A pending enabled interrupt is taken before the fetch; IDLE waits for one (R500, R550, R569, R572, R576, D9, D11). After the
boundary, in a defined state, with IE = 1 and a source both pending in ESTAT and enabled in ECFG, and the input not putting it
off (log 12), the step takes INT at the pc: whatever that instruction would do or raise, it does not run. At PLV0 IDLE moves to
the next instruction and, unless a source is both pending and enabled already, waits; nothing else changes. A step of a waiting
core with no enabled source pending is the boundary alone; with one pending and no interrupt taken (IE = 0, or put off) the core
goes on with a fetch. That a source enabled in ECFG wakes whatever IE is, and that nothing else does, is the spec's decision D11
(log 22). -/
def Obligations.InterruptAndWaiting : Prop :=
  (∀ s : State, (boundary s).defined → (boundary s).csr.crmd.getLsbD 2 = true →
  ((boundary s).csr.estat &&& (boundary s).csr.ecfg).extractLsb' 0 13 ≠ 0 → (nextInput s).deferInterrupt = false →
  step s = .next (enter .INT 0 { boundary s with waiting := false })) ∧
  (∀ (s : State) (level : BitVec 15), s.csr.crmd.extractLsb' 0 2 = 0 →
    (((s.csr.estat &&& s.csr.ecfg).extractLsb' 0 13 = 0 →
      exec (.idle level) s = .next { s with pc := s.pc + 4, waiting := true }) ∧
    ((s.csr.estat &&& s.csr.ecfg).extractLsb' 0 13 ≠ 0 →
      exec (.idle level) s = .next { s with pc := s.pc + 4, waiting := false }))) ∧
  (∀ s : State, (boundary s).defined → s.waiting = true →
    (((boundary s).csr.estat &&& (boundary s).csr.ecfg).extractLsb' 0 13 = 0 → step s = .next (boundary s)) ∧
    (((boundary s).csr.estat &&& (boundary s).csr.ecfg).extractLsb' 0 13 ≠ 0 →
      ((boundary s).csr.crmd.getLsbD 2 = false ∨ (nextInput s).deferInterrupt = true) →
      step s = (fetchPhase (nextInput s).staleChoice { boundary s with waiting := false }).outcome))

/-- A fetch that fails takes its exception at pc; undefined states are refused (R136, R143, R145, R147, R232, R356, R523, R550,
R555, R565, D9, D41). A state with privilege level 1 or 2, or with DA = PG, is refused at the boundary (log 29). After the
boundary, in a defined state, with the core running or woken, and no interrupt taken (none pending, or put off): a pc that is no
multiple of 4 takes ADEF with it, before any translation; an aligned one whose translation raises takes that exception; where
the translation is refused so is the step; a fetch of a reserved access type is refused, and so is one where the platform has
nothing (log 9, 24); a word the fetch sees, current or older, that is no instruction takes INE; an RDTIME word is refused (log
36); a fetch from a device is recorded once (log 61, 64) and gives some word, of which the same holds, and which runs where it
is an instruction. That an input may put an interrupt off is the spec's decision D9 (log 12), that a fetch may see an older word
its decision D41 (log 34). -/
def Obligations.FetchExceptions : Prop :=
  (∀ s : State, (boundary s).csr.crmd.extractLsb' 0 2 = 1 ∨ (boundary s).csr.crmd.extractLsb' 0 2 = 2 →
    step s = .refused .illegalPrivilegeLevel) ∧
  (∀ s : State, (boundary s).csr.crmd.extractLsb' 0 2 = 0 ∨ (boundary s).csr.crmd.extractLsb' 0 2 = 3 →
    (boundary s).csr.crmd.getLsbD 3 = (boundary s).csr.crmd.getLsbD 4 → step s = .refused .illegalTranslationMode) ∧
  ∀ s u : State, (boundary s).defined →
  ((boundary s).waiting = true → pendingVector (boundary s) ≠ 0) →
  (interruptPending (boundary s) = true → (nextInput s).deferInterrupt = true) →
  u = { boundary s with waiting := false } →
  (u.pc.toNat % 4 ≠ 0 → step s = .next (enter .ADEF u.pc u)) ∧
  (u.pc.toNat % 4 = 0 →
    (∀ x va, translate .fetch u.pc u = .raise x va → step s = .next (enter x va u)) ∧
    (∀ r, translate .fetch u.pc u = .refuse r → step s = .refused r) ∧
    (∀ target, translate .fetch u.pc u = .ok target →
      (2 ≤ target.mat.toNat → step s = .refused .reservedAccessType) ∧
      (target.mat.toNat < 2 → regionKind target.pa u = .nothing → step s = .refused (.nothingAtAddress target.pa)))) ∧
  (∀ p, fetchPlace u = .ok p →
    (p.kind ≠ .device →
      (decodeWord (seenWord (nextInput s).staleChoice p.target.pa u) = .error .undefined →
        step s = .next (enter .INE 0 u)) ∧
      (decodeWord (seenWord (nextInput s).staleChoice p.target.pa u) = .error .rdtime → step s = .refused .rdtimeForm)) ∧
    (p.kind = .device → ∃ (w : Word) (v : State), v = { u with io := ⟨false, p.target.pa, 4, w.setWidth 64⟩ :: u.io } ∧
      (∀ i, decodeWord w = .ok i → step s = exec i v) ∧
      (decodeWord w = .error .undefined → step s = .next (enter .INE 0 v)) ∧
      (decodeWord w = .error .rdtime → step s = .refused .rdtimeForm)))

/-- CSRRD writes what the register of that number reads as; undefined numbers read 0 and ignore writes (R66, R68, R78, R80, R94,
R96, R102, R480, R482, D25, D30, 10_state.md). At PLV0 CSRRD writes to rd what the register reads as; no control and status
register changes, nor anything else but pc. At any other level it takes IPE. Right after reset CRMD reads as 8. Each number of
the table reads as its own register; ASID reads with ASIDBITS 10 above its ten bits (the spec's decision D30, log 38); PGD reads
as PGDH where BADV has bit 31 and as PGDL where not; CPUID reads as the core's number; TICLR reads as 0; LLBCTL reads with LLbit
in bit 0, KLO in bit 2 and 0 elsewhere (TVAL is in ClockTick). A number the architecture does not define, CTAG counted among
them (decision D25, log 35), or the implementation lacks, reads as 0 and a software write to it changes nothing at all, CSRWR
and CSRXCHG putting 0 in rd. What the implementation lacks is what its parameters list, and the windows above their number (log
65). -/
def Obligations.CsrReadResult : Prop :=
  (∀ (s : State) (rd : Reg) (n : BitVec 14),
    (s.csr.crmd.extractLsb' 0 2 = 0 → completes (.csrrd rd n) s (wroteGpr rd (csrRead n s) s)) ∧
    (s.csr.crmd.extractLsb' 0 2 ≠ 0 → exec (.csrrd rd n) s = .next (enter .IPE 0 s))) ∧
  csrRead 0 State.reset = 8 ∧
  (∀ s : State,
    (∀ q ∈ [((0x0 : BitVec 14), s.csr.crmd), (0x1, s.csr.prmd), (0x2, s.csr.euen), (0x4, s.csr.ecfg), (0x5, s.csr.estat), (0x6, s.csr.era),
      (0x7, s.csr.badv), (0xC, s.csr.eentry), (0x10, s.csr.tlbidx), (0x11, s.csr.tlbehi), (0x12, s.csr.tlbelo0), (0x13, s.csr.tlbelo1),
      (0x19, s.csr.pgdl), (0x1A, s.csr.pgdh), (0x30, s.csr.save0), (0x31, s.csr.save1), (0x32, s.csr.save2), (0x33, s.csr.save3),
      (0x40, s.csr.tid), (0x41, s.csr.tcfg), (0x88, s.csr.tlbrentry), (0x180, s.csr.dmw0), (0x181, s.csr.dmw1)],
      csrAbsent q.1 s = false → csrRead q.1 s = q.2) ∧
    (csrAbsent 0x18 s = false → s.csr.asid &&& 0xFFFFFC00 = 0 →
      csrRead 0x18 s = (10 : BitVec 16) ++ (0 : BitVec 6) ++ s.csr.asid.extractLsb' 0 10) ∧
    (csrAbsent 0x1B s = false → csrRead 0x1B s = if 2 ^ 31 ≤ s.csr.badv.toNat then s.csr.pgdh else s.csr.pgdl) ∧
    (csrAbsent 0x20 s = false → csrRead 0x20 s = (0 : BitVec 23) ++ s.cfg.coreId) ∧
    csrRead 0x44 s = 0 ∧
    (csrAbsent 0x60 s = false → s.csr.llbctl &&& 0xFFFFFFFB = 0 → ∀ k, k < 32 →
      (csrRead 0x60 s).getLsbD k = ((decide (k = 0) && s.llbit) || (decide (k = 2) && s.csr.llbctl.getLsbD 2))) ∧
    (∀ n : BitVec 14, csrAbsent n s = true ↔
      n ∈ s.cfg.absentCsrs ∨ (n = 0x180 ∧ s.cfg.dmwCount = 0) ∨ (n = 0x181 ∧ s.cfg.dmwCount ≤ 1))) ∧
  (∀ (s : State) (n : BitVec 14),
  (n ∉ [0x0, 0x1, 0x2, 0x4, 0x5, 0x6, 0x7, 0xC, 0x10, 0x11, 0x12, 0x13, 0x18, 0x19, 0x1A, 0x1B, 0x20, 0x30, 0x31, 0x32, 0x33,
    0x40, 0x41, 0x42, 0x44, 0x60, 0x88, 0x180, 0x181] ∨ csrAbsent n s = true) →
  csrRead n s = 0 ∧ (∀ v m : Word, csrWrite n v m s = s) ∧
  (s.csr.crmd.extractLsb' 0 2 = 0 → ∀ rd rj : Reg,
    completes (.csrwr rd n) s (wroteGpr rd 0 s) ∧ completes (.csrxchg rd rj n) s (wroteGpr rd 0 s)))

/-- A software write changes exactly the writable bits under its mask (R66, R67, R69, R71, R74, R80, R81, R90, R93, R99, R101,
10_state.md). For every register with storage: bit k of it after a write of v under mask m is bit k of v where the register lets
software write it and m has it, and as before elsewhere; every other register with storage is as it was. Each number stores to
its own register. The writable bits are those the registers' rules state: TLBIDX.Index has the width of the implementation, the
page numbers of TLBELO0 and TLBELO1 end at PALEN, TCFG at the timer's width, and EUEN.FPE is writable where floating point is
implemented (its being a constant 0 elsewhere is the spec's decision D5). PGD, CPUID and TVAL are read-only: a write to them
changes nothing. (TICLR, with no storage, is in CsrSideEffects.) -/
def Obligations.CsrMaskedWrite : Prop :=
  (∀ s : State,
    (∀ q ∈ [((0x0 : BitVec 14), (0x1FF : Word)), (0x1, 0x7), (0x4, 0x1BFF), (0x5, 0x3), (0x6, 0xFFFFFFFF), (0x7, 0xFFFFFFFF), (0xC, 0xFFFFFFC0),
      (0x11, 0xFFFFE000), (0x18, 0x3FF), (0x19, 0xFFFFF000), (0x1A, 0xFFFFF000), (0x30, 0xFFFFFFFF), (0x31, 0xFFFFFFFF), (0x32, 0xFFFFFFFF),
      (0x33, 0xFFFFFFFF), (0x40, 0xFFFFFFFF), (0x60, 0x4), (0x88, 0xFFFFFFC0), (0x180, 0xEE000039), (0x181, 0xEE000039)],
      csrMask q.1 s = q.2) ∧
    csrMask 0x2 s = (if s.cfg.fpLevel = .none then 0 else 1) ∧
    ∀ k, k < 32 →
      (csrMask 0x10 s).getLsbD k = decide (k < s.cfg.tlbidxN ∨ (24 ≤ k ∧ k ≤ 29) ∨ k = 31) ∧
      (csrMask 0x12 s).getLsbD k = decide (k < 7 ∨ (8 ≤ k ∧ k + 4 < s.cfg.palen)) ∧
      (csrMask 0x13 s).getLsbD k = decide (k < 7 ∨ (8 ≤ k ∧ k + 4 < s.cfg.palen)) ∧
      (csrMask 0x41 s).getLsbD k = decide (k < s.cfg.timerN)) ∧
  (∀ c : Csr, [0x0, 0x1, 0x2, 0x4, 0x5, 0x6, 0x7, 0xC, 0x10, 0x11, 0x12, 0x13, 0x18, 0x19, 0x1A, 0x30, 0x31, 0x32, 0x33, 0x40,
      0x41, 0x60, 0x88, 0x180, 0x181].map (fun n => csrStored n c) =
    [c.crmd, c.prmd, c.euen, c.ecfg, c.estat, c.era, c.badv, c.eentry, c.tlbidx, c.tlbehi, c.tlbelo0, c.tlbelo1,
      c.asid, c.pgdl, c.pgdh, c.save0, c.save1, c.save2, c.save3, c.tid, c.tcfg, c.llbctl, c.tlbrentry, c.dmw0, c.dmw1]) ∧
  (∀ (s : State) (v m : Word), ∀ n ∈ [(0x1B : BitVec 14), 0x20, 0x42], csrWrite n v m s = s) ∧
  ∀ (s : State) (n : BitVec 14) (v m : Word), csrAbsent n s = false → n ≠ 0x44 →
  (n ∈ [0x0, 0x1, 0x2, 0x4, 0x5, 0x6, 0x7, 0xC, 0x10, 0x11, 0x12, 0x13, 0x18, 0x19, 0x1A, 0x30, 0x31, 0x32, 0x33, 0x40,
      0x41, 0x60, 0x88, 0x180, 0x181] → ∀ k, k < 32 →
    (csrStored n (csrWrite n v m s).csr).getLsbD k =
      if (csrMask n s).getLsbD k && m.getLsbD k then v.getLsbD k else (csrStored n s.csr).getLsbD k) ∧
  (∀ n' : BitVec 14, n' ≠ n → csrStored n' (csrWrite n v m s).csr = csrStored n' s.csr)

/-- CSRWR and CSRXCHG exchange a register with a control and status register (R480, R483, R484, D46). At PLV0 both write the old
value of rd to the register, under all bits or under the mask in rj, and put what the register read as before in rd; all
registers are read before any is written, so rd = rj is fine. Besides, only what that write does to the registers, LLbit and the
timer changes. At any other level they take IPE. That all registers are read before any is written, rd = rj included, is the
spec's decision D46 (log 48). -/
def Obligations.CsrExchangeResult : Prop :=
  ∀ (s : State) (rd rj : Reg) (n : BitVec 14),
  ∀ q ∈ [(Instr.csrwr rd n, (0xFFFFFFFF : Word)), (Instr.csrxchg rd rj n, gprGet rj s)],
  (s.csr.crmd.extractLsb' 0 2 ≠ 0 → exec q.1 s = .next (enter .IPE 0 s)) ∧
  (s.csr.crmd.extractLsb' 0 2 = 0 → completes q.1 s fun t =>
    t.csr = (csrWrite n (gprGet rd s) q.2 s).csr ∧ t.llbit = (csrWrite n (gprGet rd s) q.2 s).llbit ∧
    t.timerVal = (csrWrite n (gprGet rd s) q.2 s).timerVal ∧ t.timerRun = (csrWrite n (gprGet rd s) q.2 s).timerRun ∧
    wroteGpr rd (csrRead n s) s
      { t with csr := s.csr, llbit := s.llbit, timerVal := s.timerVal, timerRun := s.timerRun })

/-- What writing TCFG, TICLR and LLBCTL does besides (R501, R80, R102, R581, 46_privileged.md). A write to TCFG starts the timer
at its new initial value when its En bit is then 1 and stops it otherwise, whatever the bits written. A write to TICLR clears
the pending timer interrupt exactly when bit 0 of both value and mask is 1, and changes nothing else. A write to LLBCTL clears
LLbit exactly when bit 1 of both is 1. A write to any other register changes no LLbit and no timer. That the count loads at the
write is the spec's decision D12 (log 23). -/
def Obligations.CsrSideEffects : Prop :=
  ∀ (s : State) (v m : Word), s.cfg.absentCsrs = [] →
  (csrWrite 0x41 v m s).timerRun = (csrWrite 0x41 v m s).csr.tcfg.getLsbD 0 ∧
  ((csrWrite 0x41 v m s).csr.tcfg.getLsbD 0 = true →
    (csrWrite 0x41 v m s).timerVal.toNat = (csrWrite 0x41 v m s).csr.tcfg.toNat / 4 * 4) ∧
  (csrWrite 0x41 v m s).llbit = s.llbit ∧
  csrWrite 0x44 v m s = { s with csr := { s.csr with estat :=
    (if v.getLsbD 0 && m.getLsbD 0 then s.csr.estat &&& 0xFFFFF7FF else s.csr.estat) } } ∧
  (csrWrite 0x60 v m s).llbit = (s.llbit && !(v.getLsbD 1 && m.getLsbD 1)) ∧
  (∀ n : BitVec 14, n ≠ 0x41 → (csrWrite n v m s).timerVal = s.timerVal ∧ (csrWrite n v m s).timerRun = s.timerRun ∧
    (n ≠ 0x60 → (csrWrite n v m s).llbit = s.llbit))

/-- One tick of the constant-frequency clock (R55, R102, R582, D12, D27). The Stable Counter goes up by one, wrapping. A timer
that is enabled and running counts down; at 0 it raises TI, and reloads where it is periodic and stops where it is not. Nothing
else changes. TVAL reads as the count of a timer that counts; of its value otherwise nothing is known but its width: it has no
bit at or above TIMER_N, nor has the count of a timer that keeps to its width, which InvariantKept says it does (log 23). -/
def Obligations.ClockTick : Prop :=
  ∀ s : State,
  (tick s).counter.toNat = (s.counter.toNat + 1) % 2 ^ 64 ∧
  (s.csr.tcfg.getLsbD 0 = true → s.timerRun = true →
    (s.timerVal ≠ 0 → (tick s).timerVal.toNat + 1 = s.timerVal.toNat ∧ (tick s).timerRun = true ∧ (tick s).csr = s.csr) ∧
    (s.timerVal = 0 → (tick s).csr = { s.csr with estat := s.csr.estat ||| 0x800 } ∧
      (s.csr.tcfg.getLsbD 1 = true → (tick s).timerVal.toNat = s.csr.tcfg.toNat / 4 * 4 ∧ (tick s).timerRun = true) ∧
      (s.csr.tcfg.getLsbD 1 = false → (tick s).timerRun = false))) ∧
  ((s.csr.tcfg.getLsbD 0 = false ∨ s.timerRun = false) → tick s = { s with counter := (tick s).counter }) ∧
  tick s = { s with counter := (tick s).counter, timerVal := (tick s).timerVal, timerRun := (tick s).timerRun, csr := (tick s).csr } ∧
  (s.csr.tcfg.getLsbD 0 = true → s.timerRun = true → s.cfg.absentCsrs = [] → csrRead 0x42 s = s.timerVal) ∧
  (s.csr.tcfg.getLsbD 0 = false ∨ s.timerRun = false ∨ s.timerVal.toNat < 2 ^ s.cfg.timerN →
    ∀ k, s.cfg.timerN ≤ k → (csrRead 0x42 s).getLsbD k = false)

/-- TLBWR and TLBFILL write the entry the registers describe, TLBRD reads the entry the index names (R491, R492, R493, R495,
R497, D34, D44, 46_privileged.md). At PLV0 TLBWR replaces the entry TLBIDX.Index names, and TLBFILL some entry (any, the spec's
decision D34, log 40), by the one made of ESTAT.Ecode, TLBIDX, TLBEHI, TLBELO0, TLBELO1 and ASID; nothing else changes but pc. E
is 1 inside a TLB refill and else the complement of NE; G is 1 when both G bits are. A TLB of no entries TLBFILL leaves as it
is. TLBWR with an index outside the TLB is refused, and either is refused where the entry would be non-empty with a page size
that is neither 4 KB nor 4 MB (log 30). Of a non-empty entry TLBRD writes VPPN, both pages with the entry's G (page numbers cut
to PALEN bits), PS, ASID, and NE 0, but for the bits translation ignores in a 4 MB entry, of which nothing is known (decision
D44, log 32). Of an empty entry it writes NE 1 and zeros. Index and every other register, and everything else but pc, are kept.
An index outside the TLB is refused (log 30). -/
def Obligations.TlbWriteAndReadResult : Prop :=
  (∀ (s : State) (e : TlbEntry), s.csr.crmd.extractLsb' 0 2 = 0 → s.cfg.tlbidxN ≤ 16 →
  e = {
      e := decide (s.csr.estat.extractLsb' 16 6 = 0x3F) || !s.csr.tlbidx.getLsbD 31
      asid := s.csr.asid.extractLsb' 0 10
      g := s.csr.tlbelo0.getLsbD 6 && s.csr.tlbelo1.getLsbD 6
      ps := s.csr.tlbidx.extractLsb' 24 6
      vppn := s.csr.tlbehi.extractLsb' 13 19
      page0 := ⟨s.csr.tlbelo0.getLsbD 0, s.csr.tlbelo0.getLsbD 1, s.csr.tlbelo0.extractLsb' 2 2,
        s.csr.tlbelo0.extractLsb' 4 2, s.csr.tlbelo0.extractLsb' 8 24⟩
      page1 := ⟨s.csr.tlbelo1.getLsbD 0, s.csr.tlbelo1.getLsbD 1, s.csr.tlbelo1.extractLsb' 2 2,
        s.csr.tlbelo1.extractLsb' 4 2, s.csr.tlbelo1.extractLsb' 8 24⟩ } →
  (e.e = false ∨ e.ps = 12 ∨ e.ps = 21 →
    (s.csr.tlbidx.toNat % 2 ^ s.cfg.tlbidxN < s.tlb.length →
      exec .tlbwr s = .next { s with pc := s.pc + 4, tlb := s.tlb.set (s.csr.tlbidx.toNat % 2 ^ s.cfg.tlbidxN) e }) ∧
    (s.tlb = [] → exec .tlbfill s = .next { s with pc := s.pc + 4 }) ∧
    (s.tlb ≠ [] → ∃ i, i < s.tlb.length ∧ exec .tlbfill s = .next { s with pc := s.pc + 4, tlb := s.tlb.set i e })) ∧
  (e.e = true → e.ps ≠ 12 → e.ps ≠ 21 → exec .tlbfill s = .refused .unsupportedPageSize ∧
    (s.csr.tlbidx.toNat % 2 ^ s.cfg.tlbidxN < s.tlb.length → exec .tlbwr s = .refused .unsupportedPageSize)) ∧
  (s.tlb.length ≤ s.csr.tlbidx.toNat % 2 ^ s.cfg.tlbidxN → exec .tlbwr s = .refused .tlbIndexOutOfRange)) ∧
  (∀ (s : State), s.csr.crmd.extractLsb' 0 2 = 0 → s.cfg.tlbidxN ≤ 16 →
  (∀ e : TlbEntry, s.tlb[s.csr.tlbidx.toNat % 2 ^ s.cfg.tlbidxN]? = some e →
    completes .tlbrd s fun t =>
      t = { s with pc := s.pc + 4, csr := { s.csr with
        tlbehi := t.csr.tlbehi, tlbelo0 := t.csr.tlbelo0, tlbelo1 := t.csr.tlbelo1, tlbidx := t.csr.tlbidx, asid := t.csr.asid } } ∧
      t.csr.tlbidx.extractLsb' 0 24 = s.csr.tlbidx.extractLsb' 0 24 ∧ t.csr.tlbidx.getLsbD 31 = !e.e ∧
      (e.e = false → t.csr.tlbidx.extractLsb' 24 6 = 0 ∧ t.csr.asid = 0 ∧ t.csr.tlbehi = 0 ∧ t.csr.tlbelo0 = 0 ∧ t.csr.tlbelo1 = 0) ∧
      (e.e = true → t.csr.tlbidx.extractLsb' 24 6 = e.ps ∧ t.csr.asid = e.asid.setWidth 32 ∧
        t.csr.tlbehi.extractLsb' 0 13 = 0 ∧ t.csr.tlbehi.extractLsb' 22 10 = e.vppn.extractLsb' 9 10 ∧
        (e.ps ≠ 21 → t.csr.tlbehi.extractLsb' 13 19 = e.vppn) ∧
        (∀ q ∈ [(t.csr.tlbelo0, e.page0), (t.csr.tlbelo1, e.page1)],
          q.1.getLsbD 0 = q.2.v ∧ q.1.getLsbD 1 = q.2.d ∧ q.1.extractLsb' 2 2 = q.2.plv ∧
          q.1.extractLsb' 4 2 = q.2.mat ∧ q.1.getLsbD 6 = e.g ∧ q.1.getLsbD 7 = false ∧
          ∀ k, k < 24 → (s.cfg.palen ≤ k + 12 → q.1.getLsbD (8 + k) = false) ∧
            (k + 12 < s.cfg.palen → e.ps ≠ 21 ∨ 9 ≤ k → q.1.getLsbD (8 + k) = q.2.ppn.getLsbD k)))) ∧
  (s.tlb.length ≤ s.csr.tlbidx.toNat % 2 ^ s.cfg.tlbidxN → exec .tlbrd s = .refused .tlbIndexOutOfRange))

/-- TLBSRCH finds the one entry that matches TLBEHI (R490, R163, D39, 46_privileged.md). At PLV0, where no entry matches the
page pair in TLBEHI under the current ASID, TLBSRCH sets NE and keeps Index; where exactly one does, it puts its index in Index
and clears NE. Nothing else changes but pc. Two matching entries are refused (log 30). That the comparison is the lookup's, with
the entry's own page size, is the spec's decision D39 (DESIGN CHOICE, log 45). -/
def Obligations.TlbSearchResult : Prop :=
  ∀ s : State, s.csr.crmd.extractLsb' 0 2 = 0 → s.cfg.tlbidxN ≤ 16 → s.tlb.length ≤ 2 ^ s.cfg.tlbidxN →
  ((∀ e ∈ s.tlb, tlbMatch e (s.csr.asid.extractLsb' 0 10) (s.csr.tlbehi &&& 0xFFFFE000) = false) →
    exec .tlbsrch s = .next { s with pc := s.pc + 4, csr := { s.csr with tlbidx := s.csr.tlbidx ||| 0x80000000 } }) ∧
  (∀ (i : Nat) (e : TlbEntry), s.tlb[i]? = some e → tlbMatch e (s.csr.asid.extractLsb' 0 10) (s.csr.tlbehi &&& 0xFFFFE000) = true →
    ((∀ (j : Nat) (f : TlbEntry), j ≠ i → s.tlb[j]? = some f →
      tlbMatch f (s.csr.asid.extractLsb' 0 10) (s.csr.tlbehi &&& 0xFFFFE000) = false) →
      completes .tlbsrch s fun t =>
        t = { s with pc := s.pc + 4, csr := { s.csr with tlbidx := t.csr.tlbidx } } ∧
        t.csr.tlbidx.getLsbD 31 = false ∧ t.csr.tlbidx.toNat % 2 ^ s.cfg.tlbidxN = i ∧
        t.csr.tlbidx.extractLsb' 16 15 = s.csr.tlbidx.extractLsb' 16 15) ∧
    (∀ (j : Nat) (f : TlbEntry), j ≠ i → s.tlb[j]? = some f →
      tlbMatch f (s.csr.asid.extractLsb' 0 10) (s.csr.tlbehi &&& 0xFFFFE000) = true →
      exec .tlbsrch s = .refused .multipleTlbHit))

/-- INVTLB empties exactly the entries its op selects (R494, R496, D22, D39, 46_privileged.md). At PLV0, for op 0 to 6 and, for
ops 4 to 6, an rj with only ASID bits, every entry the op selects becomes empty and keeps its other fields, every other entry is
as it was, and nothing else changes but pc. With other bits of rj set ops 4 to 6 are refused (log 30). How ops 5 and 6 compare
an address with an entry's page pair is the spec's decision D39 (log 45), that clearing keeps the other fields D22 (log 32). -/
def Obligations.TlbInvalidateResult : Prop :=
  ∀ (s : State) (op : BitVec 5) (rj rk : Reg), s.csr.crmd.extractLsb' 0 2 = 0 → op.toNat ≤ 6 →
  (op.toNat < 4 ∨ (gprGet rj s).toNat < 1024 →
    exec (.invtlb op rj rk) s = .next { s with pc := s.pc + 4, tlb := s.tlb.map fun e =>
      if op = 0 ∨ op = 1 ∨ (op = 2 ∧ e.g = true) ∨ (op = 3 ∧ e.g = false) ∨
        (op = 4 ∧ e.g = false ∧ e.asid.toNat = (gprGet rj s).toNat) ∨
        (op = 5 ∧ e.g = false ∧ e.asid.toNat = (gprGet rj s).toNat ∧
          (gprGet rk s).toNat / 2 ^ (e.ps.toNat + 1) = e.vppn.toNat * 2 ^ 13 / 2 ^ (e.ps.toNat + 1)) ∨
        (op = 6 ∧ (e.g = true ∨ e.asid.toNat = (gprGet rj s).toNat) ∧
          (gprGet rk s).toNat / 2 ^ (e.ps.toNat + 1) = e.vppn.toNat * 2 ^ 13 / 2 ^ (e.ps.toNat + 1))
      then { e with e := false } else e }) ∧
  (4 ≤ op.toNat → 1024 ≤ (gprGet rj s).toNat → exec (.invtlb op rj rk) s = .refused .invtlbOperandBits)

/-- CACOP changes nothing but pc and how far older words of one line are maintained (R185, R486, R487, R488, R489, D23, D41,
46_privileged.md). The index forms at PLV0 change pc only. The Hit forms, at either level, where the address translates as a
load, need no alignment and change pc and at most the maintenance stage of older words of the line: on coherent cached memory
code 0x11 moves the older words of its data cache line from stored to written back, code 0x10 those of its instruction cache
line from written back to invalidated. A word of another line, or in another stage, keeps its stage, and code 0x12, and any of
them on uncached memory, maintains nothing (the model's choices, log 34, 66, 67). Where the translation raises, they take that
exception; where it is refused, and for a reserved access type, they are refused. A code the manual gives no function is refused
(log 56): one of the Hit class, 0x13 to 0x17, at every level, any other at PLV0 (elsewhere it takes IPE, PrivilegedAtUserLevel).
-/
def Obligations.CacheOperationResult : Prop :=
  ∀ (s : State) (code : BitVec 5) (rj : Reg) (si12 : BitVec 12),
  (code ∈ [0x00, 0x01, 0x02, 0x08, 0x09, 0x0A] → s.csr.crmd.extractLsb' 0 2 = 0 →
    exec (.cacop code rj si12) s = .next { s with pc := s.pc + 4 }) ∧
  (code ∈ [0x10, 0x11, 0x12] →
    (∀ target : Target, translate .load (address12 rj si12 s) s = .ok target → target.mat.toNat < 2 →
      exec (.cacop code rj si12) s = .next { s with pc := s.pc + 4, stale := s.stale.map fun w => { w with stage :=
        if code = 0x11 ∧ target.mat = 1 ∧ w.stage = .stored ∧
          w.addr / 2 ^ s.cfg.dcache.offset = target.pa / 2 ^ s.cfg.dcache.offset then .writtenBack
        else if code = 0x10 ∧ target.mat = 1 ∧ w.stage = .writtenBack ∧
          w.addr / 2 ^ s.cfg.icache.offset = target.pa / 2 ^ s.cfg.icache.offset then .invalidated
        else w.stage } }) ∧
    (∀ x va, translate .load (address12 rj si12 s) s = .raise x va →
      exec (.cacop code rj si12) s = .next (enter x va s)) ∧
    (∀ r, translate .load (address12 rj si12 s) s = .refuse r → exec (.cacop code rj si12) s = .refused r) ∧
    (∀ target : Target, translate .load (address12 rj si12 s) s = .ok target → 2 ≤ target.mat.toNat →
      exec (.cacop code rj si12) s = .refused .reservedAccessType)) ∧
  (code ∉ [0x00, 0x01, 0x02, 0x08, 0x09, 0x0A, 0x10, 0x11, 0x12] →
    code.toNat / 8 = 2 ∨ s.csr.crmd.extractLsb' 0 2 = 0 →
    exec (.cacop code rj si12) s = .refused .cacopUnnamedCode)

/-- After the maintenance sequence a fetch sees what was stored (R185, R489, R343, R622, D41). In a state where the line of an
address is coherent cached, CACOP 0x11, CACOP 0x10 and IBAR, one after the other, each completes, and then a fetch of that word
sees what memory held before them, whichever older words a fetch might have seen. That a fetch may see any older word until then
is the spec's decision D41 (log 34). That the sequence works by the cache line of each of its steps is log 66. -/
def Obligations.CodeMaintenanceSequence : Prop :=
  ∀ (s : State) (rj : Reg) (si12 : BitVec 12) (target : Target),
  translate .load (address12 rj si12 s) s = .ok target → target.mat = 1 → target.pa % 4 = 0 →
  ∃ t u v, exec (.cacop 0x11 rj si12) s = .next t ∧ exec (.cacop 0x10 rj si12) t = .next u ∧ exec (.ibar 0) u = .next v ∧
    ∀ choice, seenWord choice target.pa v = s.mem.word target.pa

/-- The fifteen arithmetic operations in both precisions: result, status and trap (R361, R362, R363, R366, D18, D40,
44_float_arith.md). Where floating point is available, each of the fifteen operations, in single and in double precision, forms
its result and its set of exceptions from the operands and the rounding mode (SumAndFusedValue, ProductAndQuotientValue,
RootAndConversionValue, MaxMinSelection and NanPropagation say which). If none of them is enabled, the result is in fd, Cause is
the set, Flags gathers it, and nothing else changes but pc (of the upper half of fd after a single nothing is known). If one is
enabled, FPE is taken, and before it only Cause changes. That Cause is then the whole set and Flags is unchanged is the spec's
decision D18 (log 27); whether FRSQRT rounds once or twice is the implementation's, decision D40 (log 46); the values follow
IEEE 754 (log 50). -/
def Obligations.ArithmeticResult : Prop :=
  ∀ (s : State) (fd fj fk fa : FReg),
  (floatReady false s →
  ∀ q ∈ [(Instr.faddS fd fj fk, fpAdd fp32 (fpEnv s) (fprGetW fj s) (fprGetW fk s)),
      (Instr.fsubS fd fj fk, fpSub fp32 (fpEnv s) (fprGetW fj s) (fprGetW fk s)),
      (Instr.fmulS fd fj fk, fpMul fp32 (fpEnv s) (fprGetW fj s) (fprGetW fk s)),
      (Instr.fdivS fd fj fk, fpDiv fp32 (fpEnv s) (fprGetW fj s) (fprGetW fk s)),
      (.fmaxS fd fj fk, fpMaxMin fp32 (fpEnv s) .gt (fprGetW fj s) (fprGetW fk s)),
      (.fminS fd fj fk, fpMaxMin fp32 (fpEnv s) .lt (fprGetW fj s) (fprGetW fk s)),
      (.fmaxaS fd fj fk, fpMaxMinMag fp32 (fpEnv s) .gt (fprGetW fj s) (fprGetW fk s)),
      (.fminaS fd fj fk, fpMaxMinMag fp32 (fpEnv s) .lt (fprGetW fj s) (fprGetW fk s)),
      (.fmaddS fd fj fk fa, fpFma fp32 (fpEnv s) (fprGetW fj s) (fprGetW fk s) (fprGetW fa s)),
      (.fmsubS fd fj fk fa, fpFms fp32 (fpEnv s) (fprGetW fj s) (fprGetW fk s) (fprGetW fa s)),
      (.fnmaddS fd fj fk fa, negatedResult (fpFma fp32 (fpEnv s) (fprGetW fj s) (fprGetW fk s) (fprGetW fa s))),
      (.fnmsubS fd fj fk fa, negatedResult (fpFms fp32 (fpEnv s) (fprGetW fj s) (fprGetW fk s) (fprGetW fa s))),
      (.fsqrtS fd fj, fpSqrt fp32 (fpEnv s) (fprGetW fj s)),
      (.frecipS fd fj, fpRecip fp32 (fpEnv s) (fprGetW fj s)),
      (.frsqrtS fd fj, fpRsqrt s.cfg.frsqrtSingleRounding fp32 (fpEnv s) (fprGetW fj s))],
  (q.2.exc &&& s.fcsr0.extractLsb' 0 5 = 0 →
    completes q.1 s fun t => wroteSingle fd q.2.bits s t ∧ statusAfter q.2.exc s t) ∧
  (q.2.exc &&& s.fcsr0.extractLsb' 0 5 ≠ 0 →
    ∃ u, exec q.1 s = .next (enter .FPE 0 u) ∧ u = { s with fcsr0 := u.fcsr0 } ∧ trappedStatus q.2.exc s u)) ∧
  (floatReady true s →
  ∀ q ∈ [(Instr.faddD fd fj fk, fpAdd fp64 (fpEnv s) (fprGet fj s) (fprGet fk s)),
      (Instr.fsubD fd fj fk, fpSub fp64 (fpEnv s) (fprGet fj s) (fprGet fk s)),
      (Instr.fmulD fd fj fk, fpMul fp64 (fpEnv s) (fprGet fj s) (fprGet fk s)),
      (Instr.fdivD fd fj fk, fpDiv fp64 (fpEnv s) (fprGet fj s) (fprGet fk s)),
      (.fmaxD fd fj fk, fpMaxMin fp64 (fpEnv s) .gt (fprGet fj s) (fprGet fk s)),
      (.fminD fd fj fk, fpMaxMin fp64 (fpEnv s) .lt (fprGet fj s) (fprGet fk s)),
      (.fmaxaD fd fj fk, fpMaxMinMag fp64 (fpEnv s) .gt (fprGet fj s) (fprGet fk s)),
      (.fminaD fd fj fk, fpMaxMinMag fp64 (fpEnv s) .lt (fprGet fj s) (fprGet fk s)),
      (.fmaddD fd fj fk fa, fpFma fp64 (fpEnv s) (fprGet fj s) (fprGet fk s) (fprGet fa s)),
      (.fmsubD fd fj fk fa, fpFms fp64 (fpEnv s) (fprGet fj s) (fprGet fk s) (fprGet fa s)),
      (.fnmaddD fd fj fk fa, negatedResult (fpFma fp64 (fpEnv s) (fprGet fj s) (fprGet fk s) (fprGet fa s))),
      (.fnmsubD fd fj fk fa, negatedResult (fpFms fp64 (fpEnv s) (fprGet fj s) (fprGet fk s) (fprGet fa s))),
      (.fsqrtD fd fj, fpSqrt fp64 (fpEnv s) (fprGet fj s)),
      (.frecipD fd fj, fpRecip fp64 (fpEnv s) (fprGet fj s)),
      (.frsqrtD fd fj, fpRsqrt s.cfg.frsqrtSingleRounding fp64 (fpEnv s) (fprGet fj s))],
  (q.2.exc &&& s.fcsr0.extractLsb' 0 5 = 0 →
    completes q.1 s fun t => wroteDouble fd q.2.bits s t ∧ statusAfter q.2.exc s t) ∧
  (q.2.exc &&& s.fcsr0.extractLsb' 0 5 ≠ 0 →
    ∃ u, exec q.1 s = .next (enter .FPE 0 u) ∧ u = { s with fcsr0 := u.fcsr0 } ∧ trappedStatus q.2.exc s u))

/-- What a datum is, over its sign, exponent and fraction fields, and the rounding mode of each RM value (R47, R50, R51, R52,
R364, R365, R368, R387, R402, R404, D47). Single precision has exponent bits 30:23 and fraction bits 22:0, double bits 62:52 and
51:0, the sign above; the biases are 127 and 1023. A datum with an exponent field of all ones is an infinity or a NaN by its
fraction, a NaN quiet or signalling by the top fraction bit; any other stands for the one number its fields give, 1.fraction
times 2 to the exponent less the bias, or 0.fraction times 2 to the least exponent. The default NaNs are 0x7FC00000 and
0x7FF8000000000000. Making a NaN quiet sets its top fraction bit, negation flips the sign bit alone and, of a result or an
addend, leaves a NaN as it is (the spec's decision D47, log 49), the magnitude clears it. RM 0 to 3 are to nearest even, toward
zero, toward positive, toward negative; bit 1 of fcsr0 enables the underflow trap. -/
def Obligations.FloatDataFields : Prop :=
  [(fp32.expBits, fp32.fracBits, fp32.width), (fp64.expBits, fp64.fracBits, fp64.width)] = [(8, 23, 32), (11, 52, 64)] ∧
  [fp32.emax, fp32.emin, fp32.qmin, fp64.emax, fp64.emin, fp64.qmin] = [127, -126, -149, 1023, -1022, -1074] ∧
  defaultNan fp32 = (0x7FC00000 : BitVec 32) ∧ defaultNan fp64 = (0x7FF8000000000000 : BitVec 64) ∧
  ([0, 1, 2, 3] : List (BitVec 2)).map RoundingMode.ofBits = [.nearestEven, .towardZero, .towardPositive, .towardNegative] ∧
  (∀ s : State, (fpEnv s).rm = RoundingMode.ofBits (s.fcsr0.extractLsb' 8 2) ∧ (fpEnv s).trapU = s.fcsr0.getLsbD 1) ∧
  ∀ f : FpFormat, f = fp32 ∨ f = fp64 → ∀ (x : BitVec f.width) (neg : Bool) (e m : Nat),
  neg = x.getLsbD (f.expBits + f.fracBits) → e = (x.extractLsb' f.fracBits f.expBits).toNat →
  m = (x.extractLsb' 0 f.fracBits).toNat →
  x.msb = neg ∧
  view x = (if e = 2 ^ f.expBits - 1 then (if m = 0 then .inf neg else .nan)
    else if e = 0 then .fin neg m (1 - f.emax - f.fracBits)
    else .fin neg (2 ^ f.fracBits + m) (e - f.emax - f.fracBits)) ∧
  (∀ r : ℝ, standsFor x r ↔ e ≠ 2 ^ f.expBits - 1 ∧ r = (if neg then -1 else 1) *
    (if e = 0 then (m : ℝ) / 2 ^ f.fracBits * 2 ^ (1 - f.emax) else (1 + m / 2 ^ f.fracBits) * 2 ^ (e - f.emax))) ∧
  (isNan x = true ↔ e = 2 ^ f.expBits - 1 ∧ m ≠ 0) ∧
  (isQNan x = true ↔ e = 2 ^ f.expBits - 1 ∧ x.getLsbD (f.fracBits - 1) = true) ∧
  (isSNan x = true ↔ e = 2 ^ f.expBits - 1 ∧ m ≠ 0 ∧ x.getLsbD (f.fracBits - 1) = false) ∧
  (∀ k, k < f.width →
    (quieted x).getLsbD k = (x.getLsbD k || decide (k = f.fracBits - 1)) ∧
    (negated x).getLsbD k = (x.getLsbD k != decide (k = f.expBits + f.fracBits)) ∧
    (magnitudeOf x).getLsbD k = (x.getLsbD k && decide (k ≠ f.expBits + f.fracBits))) ∧
  negatedNumber x = (if isNan x = true then x else negated x) ∧
  ∀ exc : BitVec 5, negatedResult (⟨x, exc⟩ : FpResult f.width) = ⟨if isNan x = true then x else negated x, exc⟩

/-- The value of a sum, a difference and a fused multiply-add (R364, R367, R368, R369, R370, R371, R375, R377, R383, R385, D18,
44_float_arith.md). In either format and every rounding mode: of operands that stand for numbers, FADD, FSUB, FMADD and FMSUB
give the exact sum, difference, or product plus or minus the addend, correctly rounded once with its exceptions (overflow,
underflow and inexact among them), or, where that is zero, the zero of the sign both parts have, and else -0 toward negative and
+0 otherwise, with no exception. With an infinity the result is that infinity; infinities that cancel, and zero times infinity
with an addend that is no NaN, are invalid: the default NaN with V alone. That the operation is the one of IEEE 754, its invalid
cases, its infinities and the sign of an exact zero among it, is general knowledge in the spec (log 50). FNMADD and FNMSUB
negate the rounded result (ArithmeticResult). -/
def Obligations.SumAndFusedValue : Prop :=
  ∀ f : FpFormat, f = fp32 ∨ f = fp64 → ∀ (env : FpEnv) (x y z : BitVec f.width) (down : Bool),
  down = decide (env.rm = .towardNegative) →
  (∀ a b : ℝ, standsFor x a → standsFor y b →
    (a + b ≠ 0 → correctlyRounded f env (a + b) (fpAdd f env x y)) ∧
    (a + b = 0 → exactZero (fpAdd f env x y) (if x.msb = y.msb then x.msb else down)) ∧
    (a - b ≠ 0 → correctlyRounded f env (a - b) (fpSub f env x y)) ∧
    (a - b = 0 → exactZero (fpSub f env x y) (if x.msb ≠ y.msb then x.msb else down)) ∧
    ∀ c : ℝ, standsFor z c →
      (a * b + c ≠ 0 → correctlyRounded f env (a * b + c) (fpFma f env x y z)) ∧
      (a * b + c = 0 → exactZero (fpFma f env x y z) (if (x.msb ^^ y.msb) = z.msb then z.msb else down)) ∧
      (a * b - c ≠ 0 → correctlyRounded f env (a * b - c) (fpFms f env x y z)) ∧
      (a * b - c = 0 → exactZero (fpFms f env x y z) (if (x.msb ^^ y.msb) ≠ z.msb then x.msb ^^ y.msb else down))) ∧
  (isInfinity x → isFinite y → fpAdd f env x y = ⟨x, 0⟩ ∧ fpSub f env x y = ⟨x, 0⟩) ∧
  (isFinite x → isInfinity y → fpAdd f env x y = ⟨y, 0⟩ ∧ fpSub f env x y = ⟨negated y, 0⟩) ∧
  (isInfinity x → isInfinity y →
    (x.msb = y.msb → fpAdd f env x y = ⟨x, 0⟩ ∧ invalid (fpSub f env x y)) ∧
    (x.msb ≠ y.msb → invalid (fpAdd f env x y) ∧ fpSub f env x y = ⟨x, 0⟩)) ∧
  (zeroTimesInfinity x y → isNan z = false → invalid (fpFma f env x y z) ∧ invalid (fpFms f env x y z)) ∧
  (∀ neg, infiniteProduct x y neg →
    (isFinite z → infinite (fpFma f env x y z) neg 0 ∧ infinite (fpFms f env x y z) neg 0) ∧
    (isInfinity z → z.msb = neg → infinite (fpFma f env x y z) neg 0 ∧ invalid (fpFms f env x y z)) ∧
    (isInfinity z → z.msb ≠ neg → invalid (fpFma f env x y z) ∧ infinite (fpFms f env x y z) neg 0)) ∧
  (isFinite x → isFinite y → isInfinity z → fpFma f env x y z = ⟨z, 0⟩ ∧ fpFms f env x y z = ⟨negated z, 0⟩)

/-- The value of a product, a quotient and a reciprocal (R364, R367, R368, R369, R370, R371, R372, R379, R381, R408, D18,
44_float_arith.md). In either format and every rounding mode: of operands that stand for numbers, FMUL, FDIV and FRECIP give the
exact product, quotient or reciprocal, correctly rounded once with its exceptions, a zero one with the exclusive or of the signs
and no exception. A nonzero number over a zero, and the reciprocal of a zero, is the infinity of the exclusive or of the signs
with Z alone. Zero times infinity, zero over zero and infinity over infinity are invalid: the default NaN with V alone. Any
other product with an infinity, and an infinity over a number, is the infinity of the exclusive or of the signs, a number over
an infinity a zero of that sign, without an exception. That the operation is the one of IEEE 754, its invalid cases, its
infinities and the sign of an exact zero among it, is general knowledge in the spec (log 50). -/
def Obligations.ProductAndQuotientValue : Prop :=
  ∀ f : FpFormat, f = fp32 ∨ f = fp64 → ∀ (env : FpEnv) (x y : BitVec f.width),
  (∀ a b : ℝ, standsFor x a → standsFor y b →
    (a * b ≠ 0 → correctlyRounded f env (a * b) (fpMul f env x y)) ∧
    (a * b = 0 → exactZero (fpMul f env x y) (x.msb ^^ y.msb)) ∧
    (b ≠ 0 → a ≠ 0 → correctlyRounded f env (a / b) (fpDiv f env x y)) ∧
    (b ≠ 0 → a = 0 → exactZero (fpDiv f env x y) (x.msb ^^ y.msb)) ∧
    (b = 0 → a ≠ 0 → infinite (fpDiv f env x y) (x.msb ^^ y.msb) 0x08) ∧
    (b = 0 → a = 0 → invalid (fpDiv f env x y))) ∧
  (zeroTimesInfinity x y → invalid (fpMul f env x y)) ∧
  (∀ neg, infiniteProduct x y neg → infinite (fpMul f env x y) neg 0) ∧
  (isInfinity x → isFinite y → infinite (fpDiv f env x y) (x.msb ^^ y.msb) 0) ∧
  (isFinite x → isInfinity y → exactZero (fpDiv f env x y) (x.msb ^^ y.msb)) ∧
  (isInfinity x → isInfinity y → invalid (fpDiv f env x y)) ∧
  (∀ a : ℝ, standsFor x a →
    (a ≠ 0 → correctlyRounded f env (1 / a) (fpRecip f env x)) ∧ (a = 0 → infinite (fpRecip f env x) x.msb 0x08)) ∧
  (isInfinity x → exactZero (fpRecip f env x) x.msb)

/-- The value of a square root, its reciprocal, and of the conversions to floating point (R364, R367, R371, R372, R406, R410,
R421, R422, R423, R424, D40, 45_float_conv_move.md). In every rounding mode: FSQRT of a positive number is its exact root
correctly rounded, of a zero that zero, of positive infinity itself; FRSQRT is one over the root, rounded once, or the rounded
reciprocal of the rounded root with the exceptions of both, as the implementation has it (the spec's decision D40, log 46), of a
zero the infinity of its sign with Z, of positive infinity +0. Of a negative number or negative infinity both are invalid. FCVT
between the formats and FFINT from a signed word give the number itself correctly rounded, a zero of the operand's sign (of the
word 0, +0), an infinity of its sign; FCVT.D.S and FFINT.D.W are always exact and raise nothing. That the operation is the one
of IEEE 754, its invalid cases, its infinities and the sign of an exact zero among it, is general knowledge in the spec (log
50). -/
def Obligations.RootAndConversionValue : Prop :=
  (∀ f : FpFormat, f = fp32 ∨ f = fp64 → ∀ (env : FpEnv) (x : BitVec f.width),
    (∀ a : ℝ, standsFor x a →
      (0 < a → correctlyRounded f env (√a) (fpSqrt f env x) ∧ correctlyRounded f env (1 / √a) (fpRsqrt true f env x) ∧
        ∃ (t r : FpResult f.width) (d : ℝ), correctlyRounded f env (√a) t ∧ standsFor t.bits d ∧
          correctlyRounded f env (1 / d) r ∧ fpRsqrt false f env x = ⟨r.bits, t.exc ||| r.exc⟩) ∧
      (a = 0 → fpSqrt f env x = ⟨x, 0⟩ ∧ ∀ once, infinite (fpRsqrt once f env x) x.msb 0x08) ∧
      (a < 0 → invalid (fpSqrt f env x) ∧ ∀ once, invalid (fpRsqrt once f env x))) ∧
    (isInfinity x → x.msb = false → fpSqrt f env x = ⟨x, 0⟩ ∧ ∀ once, exactZero (fpRsqrt once f env x) false) ∧
    (isInfinity x → x.msb = true → invalid (fpSqrt f env x) ∧ ∀ once, invalid (fpRsqrt once f env x)) ∧
    (∀ w : Word, (w ≠ 0 → correctlyRounded f env (w.toInt : ℝ) (fpFromInt f env w)) ∧
      exactZero (fpFromInt f env 0) false ∧
      (f = fp64 → standsFor (fpFromInt f env w).bits (w.toInt : ℝ) ∧ (fpFromInt f env w).exc = 0))) ∧
  (∀ f g : FpFormat, (f = fp32 ∧ g = fp64) ∨ (f = fp64 ∧ g = fp32) → ∀ (env : FpEnv) (x : BitVec f.width),
    (∀ a : ℝ, standsFor x a →
      (a ≠ 0 → correctlyRounded g env a (fpConvert f g env x)) ∧ (a = 0 → exactZero (fpConvert f g env x) x.msb) ∧
      (g = fp64 → standsFor (fpConvert f g env x).bits a ∧ (fpConvert f g env x).exc = 0)) ∧
    (isInfinity x → infinite (fpConvert f g env x) x.msb 0))

/-- Which operand a maximum or minimum returns (R391, R393, R395, R397, 44_float_arith.md). In either format, for operands that
are no NaN, nothing is raised and the result is an operand with its own sign: FMAX returns the one that compares greater and
FMIN the one that compares less (of infinities too, RelationOfNumbers), and of two that compare equal, identical or +0 and -0,
one of them (log 53). FMAXA and FMINA compare magnitudes, and return what FMAX and FMIN return where those are equal. Of two
numbers: the greater or less number, or the one of greater or less magnitude. That the operation is the one of IEEE 754, its
invalid cases, its infinities and the sign of an exact zero among it, is general knowledge in the spec (log 50). -/
def Obligations.MaxMinSelection : Prop :=
  ∀ f : FpFormat, f = fp32 ∨ f = fp64 → ∀ (env : FpEnv) (x y : BitVec f.width), isNan x = false → isNan y = false →
  (relation x y = .gt → fpMaxMin f env .gt x y = ⟨x, 0⟩ ∧ fpMaxMin f env .lt x y = ⟨y, 0⟩) ∧
  (relation x y = .lt → fpMaxMin f env .gt x y = ⟨y, 0⟩ ∧ fpMaxMin f env .lt x y = ⟨x, 0⟩) ∧
  (relation x y = .eq → ∀ wanted, fpMaxMin f env wanted x y = ⟨x, 0⟩ ∨ fpMaxMin f env wanted x y = ⟨y, 0⟩) ∧
  (relation (magnitudeOf x) (magnitudeOf y) = .gt → fpMaxMinMag f env .gt x y = ⟨x, 0⟩ ∧ fpMaxMinMag f env .lt x y = ⟨y, 0⟩) ∧
  (relation (magnitudeOf x) (magnitudeOf y) = .lt → fpMaxMinMag f env .gt x y = ⟨y, 0⟩ ∧ fpMaxMinMag f env .lt x y = ⟨x, 0⟩) ∧
  (relation (magnitudeOf x) (magnitudeOf y) = .eq →
    ∀ wanted, fpMaxMinMag f env wanted x y = fpMaxMin f env wanted x y) ∧
  ∀ a b : ℝ, standsFor x a → standsFor y b →
    (a < b → fpMaxMin f env .gt x y = ⟨y, 0⟩ ∧ fpMaxMin f env .lt x y = ⟨x, 0⟩) ∧
    (b < a → fpMaxMin f env .gt x y = ⟨x, 0⟩ ∧ fpMaxMin f env .lt x y = ⟨y, 0⟩) ∧
    (|a| < |b| → fpMaxMinMag f env .gt x y = ⟨y, 0⟩ ∧ fpMaxMinMag f env .lt x y = ⟨x, 0⟩) ∧
    (|b| < |a| → fpMaxMinMag f env .gt x y = ⟨x, 0⟩ ∧ fpMaxMinMag f env .lt x y = ⟨y, 0⟩) ∧
    (|a| = |b| → a < b → fpMaxMinMag f env .gt x y = ⟨y, 0⟩ ∧ fpMaxMinMag f env .lt x y = ⟨x, 0⟩) ∧
    (|a| = |b| → b < a → fpMaxMinMag f env .gt x y = ⟨x, 0⟩ ∧ fpMaxMinMag f env .lt x y = ⟨y, 0⟩)

/-- The twenty-two conditions of FCMP in both precisions (R400, R401, R416, R366, R371, D18, 44_float_arith.md). Where floating
point is available: the relation of the operands is one of unordered, equal, less, greater. V is raised by a signalling NaN
operand and, under the signalling conditions, by any NaN. If V is not raised and enabled, cd is 1 exactly when the relation is
in the condition's row of the table, Cause and Flags are updated, and nothing else changes but pc. Otherwise FPE is taken and
only Cause changes before it. That Flags stays at a trap is the spec's decision D18 (log 27); V for a signalling NaN under the
quiet conditions is general knowledge in it (log 50). -/
def Obligations.CompareFlagResult : Prop :=
  ∀ (s : State) (cd : CFlag) (fj fk : FReg),
  (floatReady false s → ∀ x y : BitVec fp32.width, x = fprGetW fj s → y = fprGetW fk s →
  ∀ q ∈ [(Instr.fcmpCafS cd fj fk, false, ([] : List FpRelation)), (.fcmpCunS cd fj fk, false, [.un]), (.fcmpCeqS cd fj fk, false, [.eq]),
      (.fcmpCueqS cd fj fk, false, [.un, .eq]), (.fcmpCltS cd fj fk, false, [.lt]), (.fcmpCultS cd fj fk, false, [.un, .lt]),
      (.fcmpCleS cd fj fk, false, [.lt, .eq]), (.fcmpCuleS cd fj fk, false, [.un, .lt, .eq]), (.fcmpCneS cd fj fk, false, [.gt, .lt]),
      (.fcmpCorS cd fj fk, false, [.gt, .lt, .eq]), (.fcmpCuneS cd fj fk, false, [.un, .gt, .lt]), (.fcmpSafS cd fj fk, true, []),
      (.fcmpSunS cd fj fk, true, [.un]), (.fcmpSeqS cd fj fk, true, [.eq]), (.fcmpSueqS cd fj fk, true, [.un, .eq]),
      (.fcmpSltS cd fj fk, true, [.lt]), (.fcmpSultS cd fj fk, true, [.un, .lt]), (.fcmpSleS cd fj fk, true, [.lt, .eq]),
      (.fcmpSuleS cd fj fk, true, [.un, .lt, .eq]), (.fcmpSneS cd fj fk, true, [.gt, .lt]), (.fcmpSorS cd fj fk, true, [.gt, .lt, .eq]),
      (.fcmpSuneS cd fj fk, true, [.un, .gt, .lt])],
  ∀ e : BitVec 5, e = (if isSNan x || isSNan y || (q.2.1 && (isNan x || isNan y)) then 0x10 else 0) →
  (e &&& s.fcsr0.extractLsb' 0 5 = 0 →
    completes q.1 s fun t => wroteFlag cd (decide (relation x y ∈ q.2.2)) s t ∧ statusAfter e s t) ∧
  (e &&& s.fcsr0.extractLsb' 0 5 ≠ 0 →
    ∃ u, exec q.1 s = .next (enter .FPE 0 u) ∧ u = { s with fcsr0 := u.fcsr0 } ∧ trappedStatus e s u)) ∧
  (floatReady true s → ∀ x y : BitVec fp64.width, x = fprGet fj s → y = fprGet fk s →
  ∀ q ∈ [(Instr.fcmpCafD cd fj fk, false, ([] : List FpRelation)), (.fcmpCunD cd fj fk, false, [.un]), (.fcmpCeqD cd fj fk, false, [.eq]),
      (.fcmpCueqD cd fj fk, false, [.un, .eq]), (.fcmpCltD cd fj fk, false, [.lt]), (.fcmpCultD cd fj fk, false, [.un, .lt]),
      (.fcmpCleD cd fj fk, false, [.lt, .eq]), (.fcmpCuleD cd fj fk, false, [.un, .lt, .eq]), (.fcmpCneD cd fj fk, false, [.gt, .lt]),
      (.fcmpCorD cd fj fk, false, [.gt, .lt, .eq]), (.fcmpCuneD cd fj fk, false, [.un, .gt, .lt]), (.fcmpSafD cd fj fk, true, []),
      (.fcmpSunD cd fj fk, true, [.un]), (.fcmpSeqD cd fj fk, true, [.eq]), (.fcmpSueqD cd fj fk, true, [.un, .eq]),
      (.fcmpSltD cd fj fk, true, [.lt]), (.fcmpSultD cd fj fk, true, [.un, .lt]), (.fcmpSleD cd fj fk, true, [.lt, .eq]),
      (.fcmpSuleD cd fj fk, true, [.un, .lt, .eq]), (.fcmpSneD cd fj fk, true, [.gt, .lt]), (.fcmpSorD cd fj fk, true, [.gt, .lt, .eq]),
      (.fcmpSuneD cd fj fk, true, [.un, .gt, .lt])],
  ∀ e : BitVec 5, e = (if isSNan x || isSNan y || (q.2.1 && (isNan x || isNan y)) then 0x10 else 0) →
  (e &&& s.fcsr0.extractLsb' 0 5 = 0 →
    completes q.1 s fun t => wroteFlag cd (decide (relation x y ∈ q.2.2)) s t ∧ statusAfter e s t) ∧
  (e &&& s.fcsr0.extractLsb' 0 5 ≠ 0 →
    ∃ u, exec q.1 s = .next (enter .FPE 0 u) ∧ u = { s with fcsr0 := u.fcsr0 } ∧ trappedStatus e s u))

/-- The relation of two operands is that of the numbers and infinities they stand for (R50, R51, R391, R416, 44_float_arith.md).
In either format: operands are unordered exactly when one is a NaN; two that stand for numbers relate as those real numbers, so
+0 and -0 are equal; an infinity equals the infinity of its sign, is above everything else where it is positive and below
everything else where it is negative; swapping the operands swaps less and greater. That this is what the comparisons of IEEE
754 mean is general knowledge in the spec (log 50). -/
def Obligations.RelationOfNumbers : Prop :=
  ∀ f : FpFormat, f = fp32 ∨ f = fp64 → ∀ x y : BitVec f.width,
  (relation x y = .un ↔ isNan x = true ∨ isNan y = true) ∧
  (relation x y = .lt ↔ relation y x = .gt) ∧ (relation x y = .eq ↔ relation y x = .eq) ∧
  (∀ a b : ℝ, standsFor x a → standsFor y b →
    (relation x y = .lt ↔ a < b) ∧ (relation x y = .eq ↔ a = b) ∧ (relation x y = .gt ↔ b < a)) ∧
  (∀ n m, view x = .inf n → view y = .inf m → relation x y = if n = m then .eq else if n = true then .lt else .gt) ∧
  (∀ n, view x = .inf n → isFinite y → relation x y = if n = true then .lt else .gt)

/-- A NaN operand decides the result of an arithmetic operation or a conversion between formats (R365, R371, R391, R421, R422,
D47, 44_float_arith.md, 45_float_conv_move.md). In either format: with a signalling NaN operand the first one, made quiet, is
the result, and V is raised alone; with only quiet NaNs the first one is the result, unchanged, and nothing is raised. The order
is fj, fk for addition, subtraction, multiplication and division; fa, fj, fk for the fused operations, negated or not (where the
product is zero times infinity and the addend a quiet NaN, that NaN is the result and V may be raised or not, log 54); FSQRT,
FRECIP and FRSQRT have one operand. A maximum or minimum of one quiet NaN and a number is the number; of two quiet NaNs the
first. FCVT keeps the sign, cuts the fraction at its low end or pads it there, and makes it quiet, V saying whether the NaN was
signalling. Negation leaves a NaN's sign alone: the spec's decision D47 (log 49). Which operations signal is IEEE 754's, general
knowledge in the spec (log 50). -/
def Obligations.NanPropagation : Prop :=
  (∀ f : FpFormat, f = fp32 ∨ f = fp64 → ∀ (env : FpEnv) (x y z : BitVec f.width),
  (isNan x = true → isQNan (quieted x) = true) ∧
  (∀ op ∈ [fpAdd f, fpSub f, fpMul f, fpDiv f],
    (isSNan x = true → op env x y = ⟨quieted x, 0x10⟩) ∧
    (isSNan x = false → isSNan y = true → op env x y = ⟨quieted y, 0x10⟩) ∧
    (isNan x = true → isSNan x = false → isSNan y = false → op env x y = ⟨x, 0⟩) ∧
    (isNan x = false → isNan y = true → isSNan y = false → op env x y = ⟨y, 0⟩)) ∧
  (∀ wanted, ∀ r ∈ [fpMaxMin f env wanted x y, fpMaxMinMag f env wanted x y],
    (isSNan x = true → r = ⟨quieted x, 0x10⟩) ∧
    (isSNan x = false → isSNan y = true → r = ⟨quieted y, 0x10⟩) ∧
    (isQNan x = true → isQNan y = true → r = ⟨x, 0⟩) ∧
    (isQNan x = true → isNan y = false → r = ⟨y, 0⟩) ∧ (isNan x = false → isQNan y = true → r = ⟨x, 0⟩)) ∧
  (∀ r ∈ [fpFma f env x y z, fpFms f env x y z, negatedResult (fpFma f env x y z), negatedResult (fpFms f env x y z)],
    (isSNan z = true → r = ⟨quieted z, 0x10⟩) ∧
    (isSNan z = false → isSNan x = true → r = ⟨quieted x, 0x10⟩) ∧
    (isSNan z = false → isSNan x = false → isSNan y = true → r = ⟨quieted y, 0x10⟩) ∧
    (isSNan z = false → isSNan x = false → isSNan y = false →
      (isQNan z = true → zeroTimesInfinity x y → r.bits = z ∧ (r.exc = 0 ∨ r.exc = 0x10)) ∧
      (isQNan z = true → ¬ zeroTimesInfinity x y → r = ⟨z, 0⟩) ∧
      (isNan z = false → isQNan x = true → r = ⟨x, 0⟩) ∧
      (isNan z = false → isNan x = false → isQNan y = true → r = ⟨y, 0⟩))) ∧
  (∀ r ∈ [fpSqrt f env x, fpRecip f env x, fpRsqrt true f env x, fpRsqrt false f env x],
    (isSNan x = true → r = ⟨quieted x, 0x10⟩) ∧ (isQNan x = true → r = ⟨x, 0⟩))) ∧
  (∀ (env : FpEnv) (x : BitVec fp32.width), isNan x = true → fpConvert fp32 fp64 env x =
    ⟨BitVec.ofBool x.msb ++ (0x7FF : BitVec 11) ++ (x.extractLsb' 0 23 ||| 0x400000) ++ (0 : BitVec 29),
      if isSNan x = true then 0x10 else 0⟩) ∧
  (∀ (env : FpEnv) (x : BitVec fp64.width), isNan x = true → fpConvert fp64 fp32 env x =
    ⟨BitVec.ofBool x.msb ++ (0xFF : BitVec 8) ++ (x.extractLsb' 29 23 ||| 0x400000),
      if isSNan x = true then 0x10 else 0⟩)

/-- A rounded result is the correctly rounded value (R50, R51, R364, R370, 44_float_arith.md). In either format and every
rounding mode, rounding a nonzero exact value that does not overflow gives a finite number v of the format, of its sign, such
that: I is raised exactly when v is not the exact value; toward zero, toward positive and toward negative, v lies on the mode's
side and no finite number of the format lies between v and the exact value; to nearest, no finite number is nearer, and where
another is as near, v is even. (That the operations round their exact results so is in the three statements of their values.)
That IEEE 754 is meant is general knowledge in the spec (log 50). -/
def Obligations.CorrectRounding : Prop :=
  ∀ f : FpFormat, f = fp32 ∨ f = fp64 → ∀ (env : FpEnv) (neg : Bool) (m : Nat) (e : Int) (x : ℚ), 0 < m →
  x = (if neg then -1 else 1 : ℚ) * m * 2 ^ e →
  (roundFp f env neg m e).exc.getLsbD 2 = false →
  ∃ (k : Nat) (d : Int) (v : ℚ), view (roundFp f env neg m e).bits = .fin neg k d ∧
    v = (if neg then -1 else 1 : ℚ) * k * 2 ^ d ∧
    ((roundFp f env neg m e).exc.getLsbD 0 = false ↔ v = x) ∧
    (env.rm = .towardZero → |v| ≤ |x|) ∧ (env.rm = .towardPositive → x ≤ v) ∧ (env.rm = .towardNegative → v ≤ x) ∧
    ∀ (y : BitVec f.width) (n' : Bool) (k' : Nat) (d' : Int) (w : ℚ), view y = .fin n' k' d' →
      w = (if n' then -1 else 1 : ℚ) * k' * 2 ^ d' →
      (env.rm = .towardZero → |w| ≤ |x| → |w| ≤ |v|) ∧ (env.rm = .towardPositive → x ≤ w → v ≤ w) ∧
      (env.rm = .towardNegative → w ≤ x → w ≤ v) ∧
      (env.rm = .nearestEven → |v - x| ≤ |w - x| ∧
        (|w - x| = |v - x| → w ≠ v → (roundFp f env neg m e).bits.getLsbD 0 = false))

/-- FABS, FNEG, FCOPYSIGN and FCLASS edit bits and raise nothing (R402, R403, R404, R405, R412, R413, R414, R415, D33). Where
floating point is available: FABS clears the sign bit, FNEG flips it, FCOPYSIGN takes it from fk, all other bits are those of
fj, NaNs included; FCLASS sets the one bit of its result that the class of fj names (signalling NaN 0, quiet NaN 1; negative
infinity 2, normal 3, subnormal 4, zero 5; positive the same at 6 to 9), all other bits 0. fcsr0 is unchanged (the spec's
decision D33, log 39), and nothing else changes but fd and pc. -/
def Obligations.SignAndClassResult : Prop :=
  ∀ (s : State) (fd fj fk : FReg),
  (floatReady false s →
    completes (.fabsS fd fj) s (fun t => wroteSingle fd (fprGetW fj s &&& 0x7FFFFFFF) s t ∧ t.fcsr0 = s.fcsr0) ∧
    completes (.fnegS fd fj) s (fun t => wroteSingle fd (fprGetW fj s ^^^ 0x80000000) s t ∧ t.fcsr0 = s.fcsr0) ∧
    completes (.fcopysignS fd fj fk) s (fun t =>
      wroteSingle fd ((fprGetW fj s &&& 0x7FFFFFFF) ||| (fprGetW fk s &&& 0x80000000)) s t ∧ t.fcsr0 = s.fcsr0) ∧
    ∀ (x : Word) (k : Nat), x = fprGetW fj s →
      k = (if x.extractLsb' 23 8 = 0xFF then
          (if x.extractLsb' 0 23 = 0 then (if x.msb then 2 else 6) else if x.getLsbD 22 then 1 else 0)
        else if x.extractLsb' 23 8 ≠ 0 then (if x.msb then 3 else 7)
        else if x.extractLsb' 0 23 ≠ 0 then (if x.msb then 4 else 8)
        else (if x.msb then 5 else 9)) →
      completes (.fclassS fd fj) s (fun t => wroteSingle fd (BitVec.ofNat 32 (2 ^ k)) s t ∧ t.fcsr0 = s.fcsr0)) ∧
  (floatReady true s →
    completes (.fabsD fd fj) s (fun t => wroteDouble fd (fprGet fj s &&& 0x7FFFFFFFFFFFFFFF) s t ∧ t.fcsr0 = s.fcsr0) ∧
    completes (.fnegD fd fj) s (fun t => wroteDouble fd (fprGet fj s ^^^ 0x8000000000000000) s t ∧ t.fcsr0 = s.fcsr0) ∧
    completes (.fcopysignD fd fj fk) s (fun t =>
      wroteDouble fd ((fprGet fj s &&& 0x7FFFFFFFFFFFFFFF) ||| (fprGet fk s &&& 0x8000000000000000)) s t ∧ t.fcsr0 = s.fcsr0) ∧
    ∀ (x : DWord) (k : Nat), x = fprGet fj s →
      k = (if x.extractLsb' 52 11 = 0x7FF then
          (if x.extractLsb' 0 52 = 0 then (if x.msb then 2 else 6) else if x.getLsbD 51 then 1 else 0)
        else if x.extractLsb' 52 11 ≠ 0 then (if x.msb then 3 else 7)
        else if x.extractLsb' 0 52 ≠ 0 then (if x.msb then 4 else 8)
        else (if x.msb then 5 else 9)) →
      completes (.fclassD fd fj) s (fun t => wroteDouble fd (BitVec.ofNat 64 (2 ^ k)) s t ∧ t.fcsr0 = s.fcsr0))

/-- The moves between registers of every file (R48, D17, D29, D33, R440, R441, R442, R447, R448, R451, R452,
45_float_conv_move.md). Where floating point is available each move writes its destination alone, with the bits the rules name,
and leaves fcsr0 as it is; of the upper half of a register that takes a word or single nothing is known, but MOVGR2FRH.W keeps
the lower half. MOVGR2FCSR to fcsr0 to fcsr3 replaces the bits of fcsr0 under that name's mask and takes no FPE; MOVFCSR2GR
reads the bits under the mask; for another number the write leaves the reserved bits alone and the read gives some word (the
spec's decision D29, log 37). Nothing else changes but pc. That an alias reads 0 outside its mask is decision D17 (log 26), that
FMOV copies NaNs as they are is log 55, that fcsr0 is kept is decision D33 (log 39). -/
def Obligations.FloatMoveResult : Prop :=
  ∀ (s : State) (fd fj fk : FReg) (rd rj : Reg) (cd cj : CFlag) (num : BitVec 5),
  (floatReady false s →
    completes (.fmovS fd fj) s (fun t => wroteSingle fd (fprGetW fj s) s t ∧ t.fcsr0 = s.fcsr0) ∧
    completes (.fsel fd fj fk cj) s (fun t =>
      wroteDouble fd (if cfGet cj s = true then fprGet fk s else fprGet fj s) s t ∧ t.fcsr0 = s.fcsr0) ∧
    completes (.movgr2frW fd rj) s (fun t => wroteSingle fd (gprGet rj s) s t ∧ t.fcsr0 = s.fcsr0) ∧
    completes (.movfr2grS rd fj) s (wroteGpr rd ((fprGet fj s).extractLsb' 0 32) s) ∧
    completes (.movfr2cf cd fj) s (fun t => wroteFlag cd ((fprGet fj s).getLsbD 0) s t ∧ t.fcsr0 = s.fcsr0) ∧
    completes (.movcf2fr fd cj) s (fun t => wroteDouble fd (if cfGet cj s = true then 1 else 0) s t ∧ t.fcsr0 = s.fcsr0) ∧
    completes (.movgr2cf cd rj) s (fun t => wroteFlag cd ((gprGet rj s).getLsbD 0) s t ∧ t.fcsr0 = s.fcsr0) ∧
    completes (.movcf2gr rd cj) s (wroteGpr rd (if cfGet cj s = true then 1 else 0) s) ∧
    (∀ q ∈ [((0 : BitVec 5), (0x1F1F031F : Word)), (1, 0x0000001F), (2, 0x1F1F0000), (3, 0x00000300)],
      exec (.movgr2fcsr q.1 rj) s = .next { s with
        pc := s.pc + 4, fcsr0 := (s.fcsr0 &&& ~~~q.2) ||| (gprGet rj s &&& q.2) } ∧
      completes (.movfcsr2gr rd q.1) s (wroteGpr rd (s.fcsr0 &&& q.2) s)) ∧
    (4 ≤ num.toNat →
      (completes (.movgr2fcsr num rj) s fun t => t = { s with pc := s.pc + 4, fcsr0 := t.fcsr0 } ∧
        t.fcsr0 &&& 0xE0E0FCE0 = s.fcsr0 &&& 0xE0E0FCE0) ∧
      ∃ v : Word, completes (.movfcsr2gr rd num) s (wroteGpr rd v s))) ∧
  (floatReady true s →
    completes (.fmovD fd fj) s (fun t => wroteDouble fd (fprGet fj s) s t ∧ t.fcsr0 = s.fcsr0) ∧
    completes (.movgr2frhW fd rj) s (fun t => wroteDouble fd (gprGet rj s ++ fprGetW fd s) s t ∧ t.fcsr0 = s.fcsr0) ∧
    completes (.movfrh2grS rd fj) s (wroteGpr rd ((fprGet fj s).extractLsb' 32 32) s))

/-- The conversions: result, status and trap (R366, R421, R422, R423, R424, R425, R426, R428, R430, R432, R434,
45_float_conv_move.md). Where floating point is available, each conversion forms its result and exceptions from its operand and
its rounding mode (fcsr0.RM, or the one in its name), and then runs the status procedure: with no raised exception enabled, the
result is in fd, Cause is the set, Flags gathers it; with one enabled, FPE is taken and only Cause changes before it. What an
invalid conversion to a word delivers is the implementation's (log 28). The values are in RootAndConversionValue, NanPropagation
and ToWordValue. That Cause is the whole set and Flags unchanged at a trap is the spec's decision D18 (log 27). -/
def Obligations.ConversionResult : Prop :=
  ∀ (s : State) (fd fj : FReg),
  (∀ q ∈ [(Instr.fcvtSD fd fj, true, fpConvert fp64 fp32 (fpEnv s) (fprGet fj s)),
      (.ffintSW fd fj, false, fpFromInt fp32 (fpEnv s) (fprGetW fj s)),
      (.ftintWS fd fj, false, toWordS (s.fcsr0.extractLsb' 8 2) (fprGetW fj s)),
      (.ftintWD fd fj, true, toWordD (s.fcsr0.extractLsb' 8 2) (fprGet fj s)),
      (.ftintrmWS fd fj, false, toWordS 3 (fprGetW fj s)), (.ftintrmWD fd fj, true, toWordD 3 (fprGet fj s)),
      (.ftintrpWS fd fj, false, toWordS 2 (fprGetW fj s)), (.ftintrpWD fd fj, true, toWordD 2 (fprGet fj s)),
      (.ftintrzWS fd fj, false, toWordS 1 (fprGetW fj s)), (.ftintrzWD fd fj, true, toWordD 1 (fprGet fj s)),
      (.ftintrneWS fd fj, false, toWordS 0 (fprGetW fj s)), (.ftintrneWD fd fj, true, toWordD 0 (fprGet fj s))],
    floatReady q.2.1 s →
    (q.2.2.exc &&& s.fcsr0.extractLsb' 0 5 = 0 →
      completes q.1 s fun t => wroteSingle fd q.2.2.bits s t ∧ statusAfter q.2.2.exc s t) ∧
    (q.2.2.exc &&& s.fcsr0.extractLsb' 0 5 ≠ 0 →
      ∃ u, exec q.1 s = .next (enter .FPE 0 u) ∧ u = { s with fcsr0 := u.fcsr0 } ∧ trappedStatus q.2.2.exc s u)) ∧
  (∀ q ∈ [(Instr.fcvtDS fd fj, fpConvert fp32 fp64 (fpEnv s) (fprGetW fj s)),
      (.ffintDW fd fj, fpFromInt fp64 (fpEnv s) (fprGetW fj s))],
    floatReady true s →
    (q.2.exc &&& s.fcsr0.extractLsb' 0 5 = 0 →
      completes q.1 s fun t => wroteDouble fd q.2.bits s t ∧ statusAfter q.2.exc s t) ∧
    (q.2.exc &&& s.fcsr0.extractLsb' 0 5 ≠ 0 →
      ∃ u, exec q.1 s = .next (enter .FPE 0 u) ∧ u = { s with fcsr0 := u.fcsr0 } ∧ trappedStatus q.2.exc s u))

/-- The word a float-to-integer conversion gives (R435, R436, 45_float_conv_move.md). In either format: a finite operand whose
rounded value, toward zero, to nearest even, up or down, is an integer r of 32 bits converts to r, with I exactly when r is not
the operand's value; r is within one of that value, at most a half to nearest and even where it is exactly a half, and on the
mode's side of it. For a NaN, an infinity, or an r out of range the conversion raises V alone (the word is then the
implementation's, log 28). That the range is tested on the rounded value is general knowledge in the spec (log 50). -/
def Obligations.ToWordValue : Prop :=
  (∀ f : FpFormat, f = fp32 ∨ f = fp64 → ∀ (rm : RoundingMode) (v : BitVec f.width),
  ((∃ neg m e, view v = .fin neg m e) ∨ toSint32 rm v = none) ∧
  (∀ neg m e, view v = .fin neg m e → ∃ r : Int,
    let q : ℚ := (if neg then -1 else 1 : ℚ) * m * 2 ^ e
    |(r : ℚ) - q| < 1 ∧ (rm = .towardNegative → (r : ℚ) ≤ q) ∧ (rm = .towardPositive → q ≤ r) ∧
    (rm = .towardZero → |(r : ℚ)| ≤ |q|) ∧ (rm = .nearestEven → |(r : ℚ) - q| ≤ 1 / 2 ∧ (|(r : ℚ) - q| = 1 / 2 → r % 2 = 0)) ∧
    (-2147483648 ≤ r ∧ r ≤ 2147483647 →
      toSint32 rm v = some (BitVec.ofInt 32 r, if (r : ℚ) = q then 0 else 0x01)) ∧
    (r < -2147483648 ∨ 2147483647 < r → toSint32 rm v = none))) ∧
  (∀ (rm : BitVec 2) (v : BitVec fp32.width),
    (∀ w e, toSint32 (RoundingMode.ofBits rm) v = some (w, e) → toWordS rm v = ⟨w, e⟩) ∧
    (toSint32 (RoundingMode.ofBits rm) v = none → (toWordS rm v).exc = 0x10)) ∧
  (∀ (rm : BitVec 2) (v : BitVec fp64.width),
    (∀ w e, toSint32 (RoundingMode.ofBits rm) v = some (w, e) → toWordD rm v = ⟨w, e⟩) ∧
    (toSint32 (RoundingMode.ofBits rm) v = none → (toWordD rm v).exc = 0x10))

/-- The floating-point loads and stores (R42, R132, R185, R460, R461, R462, R463, 45_float_conv_move.md). Where floating point
is available and the access reaches memory: FLD.S puts the word there in the low half of fd, FLD.D the eight bytes, the byte at
the lowest address lowest; FST.S and FST.D store the low four or all eight bytes of fd and no others. fcsr0 is unchanged, and
nothing else changes but pc and what a later fetch may still see: the aligned words a store touches, as they were (StoreResult).
Memory is in its canonical form (InvariantKept). That a fetch may see them is the spec's decision D41 (log 34). The byte order
is general knowledge in the spec (PRESUMED, log 63). -/
def Obligations.FloatLoadStoreResult : Prop :=
  ∀ (s : State) (fd : FReg) (rj : Reg) (si12 : BitVec 12) (p : Place), s.mem.wf →
  (floatReady false s → locate .load 4 (address12 rj si12 s) s = .ok p → p.kind ≠ .device →
    completes (.fldS fd rj si12) s fun t => t.fcsr0 = s.fcsr0 ∧ aroundFpr fd s t ∧
      ∀ i, i < 4 → (fprGet fd t).extractLsb' (8 * i) 8 = s.mem.byte (p.target.pa + i)) ∧
  (floatReady true s → locate .load 8 (address12 rj si12 s) s = .ok p → p.kind ≠ .device →
    completes (.fldD fd rj si12) s fun t => t.fcsr0 = s.fcsr0 ∧ aroundFpr fd s t ∧
      ∀ i, i < 8 → (fprGet fd t).extractLsb' (8 * i) 8 = s.mem.byte (p.target.pa + i)) ∧
  (floatReady false s → locate .store 4 (address12 rj si12 s) s = .ok p → p.kind = .ram →
    completes (.fstS fd rj si12) s (storedOnly p.target 4 (fprGet fd s) s)) ∧
  (floatReady true s → locate .store 8 (address12 rj si12 s) s = .ok p → p.kind = .ram →
    completes (.fstD fd rj si12) s (storedOnly p.target 8 (fprGet fd s) s))

/-- Every floating-point instruction checks that it is there and enabled (R361, R552, R565, R566, D5, D14). Every instruction
with a floating-point opcode takes INE where the implementation has no floating point, whatever EUEN.FPE is, and FPD where it
has all of it and EUEN.FPE is 0, whatever its operands, and changes nothing else. With single precision only, an instruction
that names a double or the upper half of a register takes INE whatever EUEN.FPE is, and any other takes FPD where EUEN.FPE is 0.
Which instructions are absent is the spec's decision D5, that INE comes first its decision D14 (log 15). -/
def Obligations.FloatUnavailable : Prop :=
  ∀ (i : Instr) (s : State), isFloat i = true →
  (s.cfg.fpLevel = .none → exec i s = .next (enter .INE 0 s)) ∧
  (s.cfg.fpLevel = .full → s.csr.euen.getLsbD 0 = false → exec i s = .next (enter .FPD 0 s)) ∧
  (s.cfg.fpLevel = .single →
    (namesDouble i = true → exec i s = .next (enter .INE 0 s)) ∧
    (namesDouble i = false → s.csr.euen.getLsbD 0 = false → exec i s = .next (enter .FPD 0 s)))
end

