-- ==== Sys2Proof/Laws/Encoding.lean ====
section
/-! SUPPORT. What the field accessors read from an encoded word, format by format (R202, R203). -/

namespace Sys2Proof

/-- Bits of a concatenation that lie in its low part. -/
theorem extract_of_lo {w v : Nat} (x : BitVec w) (y : BitVec v) (s n : Nat) (h : s + n ≤ v) :
    (x ++ y).extractLsb' s n = y.extractLsb' s n := by
  apply BitVec.eq_of_getLsbD_eq
  intro i hi
  simp [BitVec.getLsbD_append, hi, show s + i < v by omega]

/-- Bits of a concatenation that lie in its high part. -/
theorem extract_of_hi {w v k : Nat} (x : BitVec w) (y : BitVec v) (s n : Nat) (h : k = v + s) :
    (x ++ y).extractLsb' k n = x.extractLsb' s n := by
  subst h
  apply BitVec.eq_of_getLsbD_eq
  intro i hi
  simp [BitVec.getLsbD_append, hi, show ¬ v + s + i < v by omega,
    show v + s + i - v = s + i by omega]

/-- All bits of a vector. -/
theorem extract_all {w : Nat} (x : BitVec w) : x.extractLsb' 0 w = x := by
  apply BitVec.eq_of_getLsbD_eq
  intro i hi
  simp [hi]

/-! enc2R -/
@[simp] theorem rdOf_enc2R (op : BitVec 22) (j : BitVec 5) (d : BitVec 5) : rdOf (enc2R op j d) = d :=
  (extract_of_lo (op ++ j) d 0 5 (by decide)).trans ((extract_all d))
@[simp] theorem rjOf_enc2R (op : BitVec 22) (j : BitVec 5) (d : BitVec 5) : rjOf (enc2R op j d) = j :=
  (extract_of_hi (op ++ j) d 0 5 rfl).trans ((extract_of_lo op j 0 5 (by decide)).trans ((extract_all j)))
@[simp] theorem rkOf_enc2R (op : BitVec 22) (j : BitVec 5) (d : BitVec 5) : rkOf (enc2R op j d) = op.extractLsb' 0 5 :=
  (extract_of_hi (op ++ j) d 5 5 rfl).trans ((extract_of_hi op j 0 5 rfl))
@[simp] theorem raOf_enc2R (op : BitVec 22) (j : BitVec 5) (d : BitVec 5) : raOf (enc2R op j d) = op.extractLsb' 5 5 :=
  (extract_of_hi (op ++ j) d 10 5 rfl).trans ((extract_of_hi op j 5 5 rfl))
@[simp] theorem cdOf_enc2R (op : BitVec 22) (j : BitVec 5) (d : BitVec 5) : cdOf (enc2R op j d) = d.extractLsb' 0 3 :=
  (extract_of_lo (op ++ j) d 0 3 (by decide))
@[simp] theorem cjOf_enc2R (op : BitVec 22) (j : BitVec 5) (d : BitVec 5) : cjOf (enc2R op j d) = j.extractLsb' 0 3 :=
  (extract_of_hi (op ++ j) d 0 3 rfl).trans ((extract_of_lo op j 0 3 (by decide)))
@[simp] theorem caOf_enc2R (op : BitVec 22) (j : BitVec 5) (d : BitVec 5) : caOf (enc2R op j d) = op.extractLsb' 5 3 :=
  (extract_of_hi (op ++ j) d 10 3 rfl).trans ((extract_of_hi op j 5 3 rfl))
@[simp] theorem imm12Of_enc2R (op : BitVec 22) (j : BitVec 5) (d : BitVec 5) : imm12Of (enc2R op j d) = op.extractLsb' 0 12 :=
  (extract_of_hi (op ++ j) d 5 12 rfl).trans ((extract_of_hi op j 0 12 rfl))
@[simp] theorem imm14Of_enc2R (op : BitVec 22) (j : BitVec 5) (d : BitVec 5) : imm14Of (enc2R op j d) = op.extractLsb' 0 14 :=
  (extract_of_hi (op ++ j) d 5 14 rfl).trans ((extract_of_hi op j 0 14 rfl))
@[simp] theorem offs16Of_enc2R (op : BitVec 22) (j : BitVec 5) (d : BitVec 5) : offs16Of (enc2R op j d) = op.extractLsb' 0 16 :=
  (extract_of_hi (op ++ j) d 5 16 rfl).trans ((extract_of_hi op j 0 16 rfl))
@[simp] theorem op6_enc2R (op : BitVec 22) (j : BitVec 5) (d : BitVec 5) : op6 (enc2R op j d) = op.extractLsb' 16 6 :=
  (extract_of_hi (op ++ j) d 21 6 rfl).trans ((extract_of_hi op j 16 6 rfl))
@[simp] theorem op8_enc2R (op : BitVec 22) (j : BitVec 5) (d : BitVec 5) : op8 (enc2R op j d) = op.extractLsb' 14 8 :=
  (extract_of_hi (op ++ j) d 19 8 rfl).trans ((extract_of_hi op j 14 8 rfl))
@[simp] theorem op10_enc2R (op : BitVec 22) (j : BitVec 5) (d : BitVec 5) : op10 (enc2R op j d) = op.extractLsb' 12 10 :=
  (extract_of_hi (op ++ j) d 17 10 rfl).trans ((extract_of_hi op j 12 10 rfl))
@[simp] theorem op12_enc2R (op : BitVec 22) (j : BitVec 5) (d : BitVec 5) : op12 (enc2R op j d) = op.extractLsb' 10 12 :=
  (extract_of_hi (op ++ j) d 15 12 rfl).trans ((extract_of_hi op j 10 12 rfl))
@[simp] theorem op17_enc2R (op : BitVec 22) (j : BitVec 5) (d : BitVec 5) : op17 (enc2R op j d) = op.extractLsb' 5 17 :=
  (extract_of_hi (op ++ j) d 10 17 rfl).trans ((extract_of_hi op j 5 17 rfl))
@[simp] theorem op22_enc2R (op : BitVec 22) (j : BitVec 5) (d : BitVec 5) : op22 (enc2R op j d) = op :=
  (extract_of_hi (op ++ j) d 5 22 rfl).trans ((extract_of_hi op j 0 22 rfl).trans ((extract_all op)))
@[simp] theorem lowSlotClear_enc2R (op : BitVec 22) (j : BitVec 5) (d : BitVec 5) : lowSlotClear (enc2R op j d) = (d.extractLsb' 3 2 == 0) :=
  congrArg (· == (0 : BitVec 2)) ((extract_of_lo (op ++ j) d 3 2 (by decide)))
@[simp] theorem highSlotClear_enc2R (op : BitVec 22) (j : BitVec 5) (d : BitVec 5) : highSlotClear (enc2R op j d) = (j.extractLsb' 3 2 == 0) :=
  congrArg (· == (0 : BitVec 2)) ((extract_of_hi (op ++ j) d 3 2 rfl).trans ((extract_of_lo op j 3 2 (by decide))))

/-! enc3R -/
@[simp] theorem rdOf_enc3R (op : BitVec 17) (k : BitVec 5) (j : BitVec 5) (d : BitVec 5) : rdOf (enc3R op k j d) = d :=
  (extract_of_lo (op ++ k ++ j) d 0 5 (by decide)).trans ((extract_all d))
@[simp] theorem rjOf_enc3R (op : BitVec 17) (k : BitVec 5) (j : BitVec 5) (d : BitVec 5) : rjOf (enc3R op k j d) = j :=
  (extract_of_hi (op ++ k ++ j) d 0 5 rfl).trans ((extract_of_lo (op ++ k) j 0 5 (by decide)).trans ((extract_all j)))
@[simp] theorem rkOf_enc3R (op : BitVec 17) (k : BitVec 5) (j : BitVec 5) (d : BitVec 5) : rkOf (enc3R op k j d) = k :=
  (extract_of_hi (op ++ k ++ j) d 5 5 rfl).trans ((extract_of_hi (op ++ k) j 0 5 rfl).trans ((extract_of_lo op k 0 5 (by decide)).trans ((extract_all k))))
@[simp] theorem raOf_enc3R (op : BitVec 17) (k : BitVec 5) (j : BitVec 5) (d : BitVec 5) : raOf (enc3R op k j d) = op.extractLsb' 0 5 :=
  (extract_of_hi (op ++ k ++ j) d 10 5 rfl).trans ((extract_of_hi (op ++ k) j 5 5 rfl).trans ((extract_of_hi op k 0 5 rfl)))
@[simp] theorem cdOf_enc3R (op : BitVec 17) (k : BitVec 5) (j : BitVec 5) (d : BitVec 5) : cdOf (enc3R op k j d) = d.extractLsb' 0 3 :=
  (extract_of_lo (op ++ k ++ j) d 0 3 (by decide))
@[simp] theorem cjOf_enc3R (op : BitVec 17) (k : BitVec 5) (j : BitVec 5) (d : BitVec 5) : cjOf (enc3R op k j d) = j.extractLsb' 0 3 :=
  (extract_of_hi (op ++ k ++ j) d 0 3 rfl).trans ((extract_of_lo (op ++ k) j 0 3 (by decide)))
@[simp] theorem caOf_enc3R (op : BitVec 17) (k : BitVec 5) (j : BitVec 5) (d : BitVec 5) : caOf (enc3R op k j d) = op.extractLsb' 0 3 :=
  (extract_of_hi (op ++ k ++ j) d 10 3 rfl).trans ((extract_of_hi (op ++ k) j 5 3 rfl).trans ((extract_of_hi op k 0 3 rfl)))
@[simp] theorem op6_enc3R (op : BitVec 17) (k : BitVec 5) (j : BitVec 5) (d : BitVec 5) : op6 (enc3R op k j d) = op.extractLsb' 11 6 :=
  (extract_of_hi (op ++ k ++ j) d 21 6 rfl).trans ((extract_of_hi (op ++ k) j 16 6 rfl).trans ((extract_of_hi op k 11 6 rfl)))
@[simp] theorem op8_enc3R (op : BitVec 17) (k : BitVec 5) (j : BitVec 5) (d : BitVec 5) : op8 (enc3R op k j d) = op.extractLsb' 9 8 :=
  (extract_of_hi (op ++ k ++ j) d 19 8 rfl).trans ((extract_of_hi (op ++ k) j 14 8 rfl).trans ((extract_of_hi op k 9 8 rfl)))
@[simp] theorem op10_enc3R (op : BitVec 17) (k : BitVec 5) (j : BitVec 5) (d : BitVec 5) : op10 (enc3R op k j d) = op.extractLsb' 7 10 :=
  (extract_of_hi (op ++ k ++ j) d 17 10 rfl).trans ((extract_of_hi (op ++ k) j 12 10 rfl).trans ((extract_of_hi op k 7 10 rfl)))
@[simp] theorem op12_enc3R (op : BitVec 17) (k : BitVec 5) (j : BitVec 5) (d : BitVec 5) : op12 (enc3R op k j d) = op.extractLsb' 5 12 :=
  (extract_of_hi (op ++ k ++ j) d 15 12 rfl).trans ((extract_of_hi (op ++ k) j 10 12 rfl).trans ((extract_of_hi op k 5 12 rfl)))
@[simp] theorem op17_enc3R (op : BitVec 17) (k : BitVec 5) (j : BitVec 5) (d : BitVec 5) : op17 (enc3R op k j d) = op :=
  (extract_of_hi (op ++ k ++ j) d 10 17 rfl).trans ((extract_of_hi (op ++ k) j 5 17 rfl).trans ((extract_of_hi op k 0 17 rfl).trans ((extract_all op))))

/-! enc4R -/
@[simp] theorem rdOf_enc4R (op : BitVec 12) (a : BitVec 5) (k : BitVec 5) (j : BitVec 5) (d : BitVec 5) : rdOf (enc4R op a k j d) = d :=
  (extract_of_lo (op ++ a ++ k ++ j) d 0 5 (by decide)).trans ((extract_all d))
@[simp] theorem rjOf_enc4R (op : BitVec 12) (a : BitVec 5) (k : BitVec 5) (j : BitVec 5) (d : BitVec 5) : rjOf (enc4R op a k j d) = j :=
  (extract_of_hi (op ++ a ++ k ++ j) d 0 5 rfl).trans ((extract_of_lo (op ++ a ++ k) j 0 5 (by decide)).trans ((extract_all j)))
@[simp] theorem rkOf_enc4R (op : BitVec 12) (a : BitVec 5) (k : BitVec 5) (j : BitVec 5) (d : BitVec 5) : rkOf (enc4R op a k j d) = k :=
  (extract_of_hi (op ++ a ++ k ++ j) d 5 5 rfl).trans ((extract_of_hi (op ++ a ++ k) j 0 5 rfl).trans ((extract_of_lo (op ++ a) k 0 5 (by decide)).trans ((extract_all k))))
@[simp] theorem raOf_enc4R (op : BitVec 12) (a : BitVec 5) (k : BitVec 5) (j : BitVec 5) (d : BitVec 5) : raOf (enc4R op a k j d) = a :=
  (extract_of_hi (op ++ a ++ k ++ j) d 10 5 rfl).trans ((extract_of_hi (op ++ a ++ k) j 5 5 rfl).trans ((extract_of_hi (op ++ a) k 0 5 rfl).trans ((extract_of_lo op a 0 5 (by decide)).trans ((extract_all a)))))
@[simp] theorem cdOf_enc4R (op : BitVec 12) (a : BitVec 5) (k : BitVec 5) (j : BitVec 5) (d : BitVec 5) : cdOf (enc4R op a k j d) = d.extractLsb' 0 3 :=
  (extract_of_lo (op ++ a ++ k ++ j) d 0 3 (by decide))
@[simp] theorem cjOf_enc4R (op : BitVec 12) (a : BitVec 5) (k : BitVec 5) (j : BitVec 5) (d : BitVec 5) : cjOf (enc4R op a k j d) = j.extractLsb' 0 3 :=
  (extract_of_hi (op ++ a ++ k ++ j) d 0 3 rfl).trans ((extract_of_lo (op ++ a ++ k) j 0 3 (by decide)))
@[simp] theorem caOf_enc4R (op : BitVec 12) (a : BitVec 5) (k : BitVec 5) (j : BitVec 5) (d : BitVec 5) : caOf (enc4R op a k j d) = a.extractLsb' 0 3 :=
  (extract_of_hi (op ++ a ++ k ++ j) d 10 3 rfl).trans ((extract_of_hi (op ++ a ++ k) j 5 3 rfl).trans ((extract_of_hi (op ++ a) k 0 3 rfl).trans ((extract_of_lo op a 0 3 (by decide)))))
@[simp] theorem op6_enc4R (op : BitVec 12) (a : BitVec 5) (k : BitVec 5) (j : BitVec 5) (d : BitVec 5) : op6 (enc4R op a k j d) = op.extractLsb' 6 6 :=
  (extract_of_hi (op ++ a ++ k ++ j) d 21 6 rfl).trans ((extract_of_hi (op ++ a ++ k) j 16 6 rfl).trans ((extract_of_hi (op ++ a) k 11 6 rfl).trans ((extract_of_hi op a 6 6 rfl))))
@[simp] theorem op8_enc4R (op : BitVec 12) (a : BitVec 5) (k : BitVec 5) (j : BitVec 5) (d : BitVec 5) : op8 (enc4R op a k j d) = op.extractLsb' 4 8 :=
  (extract_of_hi (op ++ a ++ k ++ j) d 19 8 rfl).trans ((extract_of_hi (op ++ a ++ k) j 14 8 rfl).trans ((extract_of_hi (op ++ a) k 9 8 rfl).trans ((extract_of_hi op a 4 8 rfl))))
@[simp] theorem op10_enc4R (op : BitVec 12) (a : BitVec 5) (k : BitVec 5) (j : BitVec 5) (d : BitVec 5) : op10 (enc4R op a k j d) = op.extractLsb' 2 10 :=
  (extract_of_hi (op ++ a ++ k ++ j) d 17 10 rfl).trans ((extract_of_hi (op ++ a ++ k) j 12 10 rfl).trans ((extract_of_hi (op ++ a) k 7 10 rfl).trans ((extract_of_hi op a 2 10 rfl))))
@[simp] theorem op12_enc4R (op : BitVec 12) (a : BitVec 5) (k : BitVec 5) (j : BitVec 5) (d : BitVec 5) : op12 (enc4R op a k j d) = op :=
  (extract_of_hi (op ++ a ++ k ++ j) d 15 12 rfl).trans ((extract_of_hi (op ++ a ++ k) j 10 12 rfl).trans ((extract_of_hi (op ++ a) k 5 12 rfl).trans ((extract_of_hi op a 0 12 rfl).trans ((extract_all op)))))
@[simp] theorem lowSlotClear_enc4R (op : BitVec 12) (a : BitVec 5) (k : BitVec 5) (j : BitVec 5) (d : BitVec 5) : lowSlotClear (enc4R op a k j d) = (d.extractLsb' 3 2 == 0) :=
  congrArg (· == (0 : BitVec 2)) ((extract_of_lo (op ++ a ++ k ++ j) d 3 2 (by decide)))
@[simp] theorem highSlotClear_enc4R (op : BitVec 12) (a : BitVec 5) (k : BitVec 5) (j : BitVec 5) (d : BitVec 5) : highSlotClear (enc4R op a k j d) = (j.extractLsb' 3 2 == 0) :=
  congrArg (· == (0 : BitVec 2)) ((extract_of_hi (op ++ a ++ k ++ j) d 3 2 rfl).trans ((extract_of_lo (op ++ a ++ k) j 3 2 (by decide))))

/-! encSel -/
@[simp] theorem rdOf_encSel (op : BitVec 14) (ca : BitVec 3) (k : BitVec 5) (j : BitVec 5) (d : BitVec 5) : rdOf (encSel op ca k j d) = d :=
  (extract_of_lo (op ++ ca ++ k ++ j) d 0 5 (by decide)).trans ((extract_all d))
@[simp] theorem rjOf_encSel (op : BitVec 14) (ca : BitVec 3) (k : BitVec 5) (j : BitVec 5) (d : BitVec 5) : rjOf (encSel op ca k j d) = j :=
  (extract_of_hi (op ++ ca ++ k ++ j) d 0 5 rfl).trans ((extract_of_lo (op ++ ca ++ k) j 0 5 (by decide)).trans ((extract_all j)))
@[simp] theorem rkOf_encSel (op : BitVec 14) (ca : BitVec 3) (k : BitVec 5) (j : BitVec 5) (d : BitVec 5) : rkOf (encSel op ca k j d) = k :=
  (extract_of_hi (op ++ ca ++ k ++ j) d 5 5 rfl).trans ((extract_of_hi (op ++ ca ++ k) j 0 5 rfl).trans ((extract_of_lo (op ++ ca) k 0 5 (by decide)).trans ((extract_all k))))
@[simp] theorem cdOf_encSel (op : BitVec 14) (ca : BitVec 3) (k : BitVec 5) (j : BitVec 5) (d : BitVec 5) : cdOf (encSel op ca k j d) = d.extractLsb' 0 3 :=
  (extract_of_lo (op ++ ca ++ k ++ j) d 0 3 (by decide))
@[simp] theorem cjOf_encSel (op : BitVec 14) (ca : BitVec 3) (k : BitVec 5) (j : BitVec 5) (d : BitVec 5) : cjOf (encSel op ca k j d) = j.extractLsb' 0 3 :=
  (extract_of_hi (op ++ ca ++ k ++ j) d 0 3 rfl).trans ((extract_of_lo (op ++ ca ++ k) j 0 3 (by decide)))
@[simp] theorem caOf_encSel (op : BitVec 14) (ca : BitVec 3) (k : BitVec 5) (j : BitVec 5) (d : BitVec 5) : caOf (encSel op ca k j d) = ca :=
  (extract_of_hi (op ++ ca ++ k ++ j) d 10 3 rfl).trans ((extract_of_hi (op ++ ca ++ k) j 5 3 rfl).trans ((extract_of_hi (op ++ ca) k 0 3 rfl).trans ((extract_of_lo op ca 0 3 (by decide)).trans ((extract_all ca)))))
@[simp] theorem op6_encSel (op : BitVec 14) (ca : BitVec 3) (k : BitVec 5) (j : BitVec 5) (d : BitVec 5) : op6 (encSel op ca k j d) = op.extractLsb' 8 6 :=
  (extract_of_hi (op ++ ca ++ k ++ j) d 21 6 rfl).trans ((extract_of_hi (op ++ ca ++ k) j 16 6 rfl).trans ((extract_of_hi (op ++ ca) k 11 6 rfl).trans ((extract_of_hi op ca 8 6 rfl))))
@[simp] theorem op8_encSel (op : BitVec 14) (ca : BitVec 3) (k : BitVec 5) (j : BitVec 5) (d : BitVec 5) : op8 (encSel op ca k j d) = op.extractLsb' 6 8 :=
  (extract_of_hi (op ++ ca ++ k ++ j) d 19 8 rfl).trans ((extract_of_hi (op ++ ca ++ k) j 14 8 rfl).trans ((extract_of_hi (op ++ ca) k 9 8 rfl).trans ((extract_of_hi op ca 6 8 rfl))))
@[simp] theorem op10_encSel (op : BitVec 14) (ca : BitVec 3) (k : BitVec 5) (j : BitVec 5) (d : BitVec 5) : op10 (encSel op ca k j d) = op.extractLsb' 4 10 :=
  (extract_of_hi (op ++ ca ++ k ++ j) d 17 10 rfl).trans ((extract_of_hi (op ++ ca ++ k) j 12 10 rfl).trans ((extract_of_hi (op ++ ca) k 7 10 rfl).trans ((extract_of_hi op ca 4 10 rfl))))
@[simp] theorem op12_encSel (op : BitVec 14) (ca : BitVec 3) (k : BitVec 5) (j : BitVec 5) (d : BitVec 5) : op12 (encSel op ca k j d) = op.extractLsb' 2 12 :=
  (extract_of_hi (op ++ ca ++ k ++ j) d 15 12 rfl).trans ((extract_of_hi (op ++ ca ++ k) j 10 12 rfl).trans ((extract_of_hi (op ++ ca) k 5 12 rfl).trans ((extract_of_hi op ca 2 12 rfl))))

/-! enc2RI12 -/
@[simp] theorem rdOf_enc2RI12 (op : BitVec 10) (i : BitVec 12) (j : BitVec 5) (d : BitVec 5) : rdOf (enc2RI12 op i j d) = d :=
  (extract_of_lo (op ++ i ++ j) d 0 5 (by decide)).trans ((extract_all d))
@[simp] theorem rjOf_enc2RI12 (op : BitVec 10) (i : BitVec 12) (j : BitVec 5) (d : BitVec 5) : rjOf (enc2RI12 op i j d) = j :=
  (extract_of_hi (op ++ i ++ j) d 0 5 rfl).trans ((extract_of_lo (op ++ i) j 0 5 (by decide)).trans ((extract_all j)))
@[simp] theorem rkOf_enc2RI12 (op : BitVec 10) (i : BitVec 12) (j : BitVec 5) (d : BitVec 5) : rkOf (enc2RI12 op i j d) = i.extractLsb' 0 5 :=
  (extract_of_hi (op ++ i ++ j) d 5 5 rfl).trans ((extract_of_hi (op ++ i) j 0 5 rfl).trans ((extract_of_lo op i 0 5 (by decide))))
@[simp] theorem raOf_enc2RI12 (op : BitVec 10) (i : BitVec 12) (j : BitVec 5) (d : BitVec 5) : raOf (enc2RI12 op i j d) = i.extractLsb' 5 5 :=
  (extract_of_hi (op ++ i ++ j) d 10 5 rfl).trans ((extract_of_hi (op ++ i) j 5 5 rfl).trans ((extract_of_lo op i 5 5 (by decide))))
@[simp] theorem cdOf_enc2RI12 (op : BitVec 10) (i : BitVec 12) (j : BitVec 5) (d : BitVec 5) : cdOf (enc2RI12 op i j d) = d.extractLsb' 0 3 :=
  (extract_of_lo (op ++ i ++ j) d 0 3 (by decide))
@[simp] theorem cjOf_enc2RI12 (op : BitVec 10) (i : BitVec 12) (j : BitVec 5) (d : BitVec 5) : cjOf (enc2RI12 op i j d) = j.extractLsb' 0 3 :=
  (extract_of_hi (op ++ i ++ j) d 0 3 rfl).trans ((extract_of_lo (op ++ i) j 0 3 (by decide)))
@[simp] theorem caOf_enc2RI12 (op : BitVec 10) (i : BitVec 12) (j : BitVec 5) (d : BitVec 5) : caOf (enc2RI12 op i j d) = i.extractLsb' 5 3 :=
  (extract_of_hi (op ++ i ++ j) d 10 3 rfl).trans ((extract_of_hi (op ++ i) j 5 3 rfl).trans ((extract_of_lo op i 5 3 (by decide))))
@[simp] theorem imm12Of_enc2RI12 (op : BitVec 10) (i : BitVec 12) (j : BitVec 5) (d : BitVec 5) : imm12Of (enc2RI12 op i j d) = i :=
  (extract_of_hi (op ++ i ++ j) d 5 12 rfl).trans ((extract_of_hi (op ++ i) j 0 12 rfl).trans ((extract_of_lo op i 0 12 (by decide)).trans ((extract_all i))))
@[simp] theorem op6_enc2RI12 (op : BitVec 10) (i : BitVec 12) (j : BitVec 5) (d : BitVec 5) : op6 (enc2RI12 op i j d) = op.extractLsb' 4 6 :=
  (extract_of_hi (op ++ i ++ j) d 21 6 rfl).trans ((extract_of_hi (op ++ i) j 16 6 rfl).trans ((extract_of_hi op i 4 6 rfl)))
@[simp] theorem op8_enc2RI12 (op : BitVec 10) (i : BitVec 12) (j : BitVec 5) (d : BitVec 5) : op8 (enc2RI12 op i j d) = op.extractLsb' 2 8 :=
  (extract_of_hi (op ++ i ++ j) d 19 8 rfl).trans ((extract_of_hi (op ++ i) j 14 8 rfl).trans ((extract_of_hi op i 2 8 rfl)))
@[simp] theorem op10_enc2RI12 (op : BitVec 10) (i : BitVec 12) (j : BitVec 5) (d : BitVec 5) : op10 (enc2RI12 op i j d) = op :=
  (extract_of_hi (op ++ i ++ j) d 17 10 rfl).trans ((extract_of_hi (op ++ i) j 12 10 rfl).trans ((extract_of_hi op i 0 10 rfl).trans ((extract_all op))))

/-! enc2RI14 -/
@[simp] theorem rdOf_enc2RI14 (op : BitVec 8) (i : BitVec 14) (j : BitVec 5) (d : BitVec 5) : rdOf (enc2RI14 op i j d) = d :=
  (extract_of_lo (op ++ i ++ j) d 0 5 (by decide)).trans ((extract_all d))
@[simp] theorem rjOf_enc2RI14 (op : BitVec 8) (i : BitVec 14) (j : BitVec 5) (d : BitVec 5) : rjOf (enc2RI14 op i j d) = j :=
  (extract_of_hi (op ++ i ++ j) d 0 5 rfl).trans ((extract_of_lo (op ++ i) j 0 5 (by decide)).trans ((extract_all j)))
@[simp] theorem rkOf_enc2RI14 (op : BitVec 8) (i : BitVec 14) (j : BitVec 5) (d : BitVec 5) : rkOf (enc2RI14 op i j d) = i.extractLsb' 0 5 :=
  (extract_of_hi (op ++ i ++ j) d 5 5 rfl).trans ((extract_of_hi (op ++ i) j 0 5 rfl).trans ((extract_of_lo op i 0 5 (by decide))))
@[simp] theorem raOf_enc2RI14 (op : BitVec 8) (i : BitVec 14) (j : BitVec 5) (d : BitVec 5) : raOf (enc2RI14 op i j d) = i.extractLsb' 5 5 :=
  (extract_of_hi (op ++ i ++ j) d 10 5 rfl).trans ((extract_of_hi (op ++ i) j 5 5 rfl).trans ((extract_of_lo op i 5 5 (by decide))))
@[simp] theorem cdOf_enc2RI14 (op : BitVec 8) (i : BitVec 14) (j : BitVec 5) (d : BitVec 5) : cdOf (enc2RI14 op i j d) = d.extractLsb' 0 3 :=
  (extract_of_lo (op ++ i ++ j) d 0 3 (by decide))
@[simp] theorem cjOf_enc2RI14 (op : BitVec 8) (i : BitVec 14) (j : BitVec 5) (d : BitVec 5) : cjOf (enc2RI14 op i j d) = j.extractLsb' 0 3 :=
  (extract_of_hi (op ++ i ++ j) d 0 3 rfl).trans ((extract_of_lo (op ++ i) j 0 3 (by decide)))
@[simp] theorem caOf_enc2RI14 (op : BitVec 8) (i : BitVec 14) (j : BitVec 5) (d : BitVec 5) : caOf (enc2RI14 op i j d) = i.extractLsb' 5 3 :=
  (extract_of_hi (op ++ i ++ j) d 10 3 rfl).trans ((extract_of_hi (op ++ i) j 5 3 rfl).trans ((extract_of_lo op i 5 3 (by decide))))
@[simp] theorem imm12Of_enc2RI14 (op : BitVec 8) (i : BitVec 14) (j : BitVec 5) (d : BitVec 5) : imm12Of (enc2RI14 op i j d) = i.extractLsb' 0 12 :=
  (extract_of_hi (op ++ i ++ j) d 5 12 rfl).trans ((extract_of_hi (op ++ i) j 0 12 rfl).trans ((extract_of_lo op i 0 12 (by decide))))
@[simp] theorem imm14Of_enc2RI14 (op : BitVec 8) (i : BitVec 14) (j : BitVec 5) (d : BitVec 5) : imm14Of (enc2RI14 op i j d) = i :=
  (extract_of_hi (op ++ i ++ j) d 5 14 rfl).trans ((extract_of_hi (op ++ i) j 0 14 rfl).trans ((extract_of_lo op i 0 14 (by decide)).trans ((extract_all i))))
@[simp] theorem op6_enc2RI14 (op : BitVec 8) (i : BitVec 14) (j : BitVec 5) (d : BitVec 5) : op6 (enc2RI14 op i j d) = op.extractLsb' 2 6 :=
  (extract_of_hi (op ++ i ++ j) d 21 6 rfl).trans ((extract_of_hi (op ++ i) j 16 6 rfl).trans ((extract_of_hi op i 2 6 rfl)))
@[simp] theorem op8_enc2RI14 (op : BitVec 8) (i : BitVec 14) (j : BitVec 5) (d : BitVec 5) : op8 (enc2RI14 op i j d) = op :=
  (extract_of_hi (op ++ i ++ j) d 19 8 rfl).trans ((extract_of_hi (op ++ i) j 14 8 rfl).trans ((extract_of_hi op i 0 8 rfl).trans ((extract_all op))))

/-! enc2RI16 -/
@[simp] theorem rdOf_enc2RI16 (op : BitVec 6) (i : BitVec 16) (j : BitVec 5) (d : BitVec 5) : rdOf (enc2RI16 op i j d) = d :=
  (extract_of_lo (op ++ i ++ j) d 0 5 (by decide)).trans ((extract_all d))
@[simp] theorem rjOf_enc2RI16 (op : BitVec 6) (i : BitVec 16) (j : BitVec 5) (d : BitVec 5) : rjOf (enc2RI16 op i j d) = j :=
  (extract_of_hi (op ++ i ++ j) d 0 5 rfl).trans ((extract_of_lo (op ++ i) j 0 5 (by decide)).trans ((extract_all j)))
@[simp] theorem rkOf_enc2RI16 (op : BitVec 6) (i : BitVec 16) (j : BitVec 5) (d : BitVec 5) : rkOf (enc2RI16 op i j d) = i.extractLsb' 0 5 :=
  (extract_of_hi (op ++ i ++ j) d 5 5 rfl).trans ((extract_of_hi (op ++ i) j 0 5 rfl).trans ((extract_of_lo op i 0 5 (by decide))))
@[simp] theorem raOf_enc2RI16 (op : BitVec 6) (i : BitVec 16) (j : BitVec 5) (d : BitVec 5) : raOf (enc2RI16 op i j d) = i.extractLsb' 5 5 :=
  (extract_of_hi (op ++ i ++ j) d 10 5 rfl).trans ((extract_of_hi (op ++ i) j 5 5 rfl).trans ((extract_of_lo op i 5 5 (by decide))))
@[simp] theorem cdOf_enc2RI16 (op : BitVec 6) (i : BitVec 16) (j : BitVec 5) (d : BitVec 5) : cdOf (enc2RI16 op i j d) = d.extractLsb' 0 3 :=
  (extract_of_lo (op ++ i ++ j) d 0 3 (by decide))
@[simp] theorem cjOf_enc2RI16 (op : BitVec 6) (i : BitVec 16) (j : BitVec 5) (d : BitVec 5) : cjOf (enc2RI16 op i j d) = j.extractLsb' 0 3 :=
  (extract_of_hi (op ++ i ++ j) d 0 3 rfl).trans ((extract_of_lo (op ++ i) j 0 3 (by decide)))
@[simp] theorem caOf_enc2RI16 (op : BitVec 6) (i : BitVec 16) (j : BitVec 5) (d : BitVec 5) : caOf (enc2RI16 op i j d) = i.extractLsb' 5 3 :=
  (extract_of_hi (op ++ i ++ j) d 10 3 rfl).trans ((extract_of_hi (op ++ i) j 5 3 rfl).trans ((extract_of_lo op i 5 3 (by decide))))
@[simp] theorem imm12Of_enc2RI16 (op : BitVec 6) (i : BitVec 16) (j : BitVec 5) (d : BitVec 5) : imm12Of (enc2RI16 op i j d) = i.extractLsb' 0 12 :=
  (extract_of_hi (op ++ i ++ j) d 5 12 rfl).trans ((extract_of_hi (op ++ i) j 0 12 rfl).trans ((extract_of_lo op i 0 12 (by decide))))
@[simp] theorem imm14Of_enc2RI16 (op : BitVec 6) (i : BitVec 16) (j : BitVec 5) (d : BitVec 5) : imm14Of (enc2RI16 op i j d) = i.extractLsb' 0 14 :=
  (extract_of_hi (op ++ i ++ j) d 5 14 rfl).trans ((extract_of_hi (op ++ i) j 0 14 rfl).trans ((extract_of_lo op i 0 14 (by decide))))
@[simp] theorem offs16Of_enc2RI16 (op : BitVec 6) (i : BitVec 16) (j : BitVec 5) (d : BitVec 5) : offs16Of (enc2RI16 op i j d) = i :=
  (extract_of_hi (op ++ i ++ j) d 5 16 rfl).trans ((extract_of_hi (op ++ i) j 0 16 rfl).trans ((extract_of_lo op i 0 16 (by decide)).trans ((extract_all i))))
@[simp] theorem op6_enc2RI16 (op : BitVec 6) (i : BitVec 16) (j : BitVec 5) (d : BitVec 5) : op6 (enc2RI16 op i j d) = op :=
  (extract_of_hi (op ++ i ++ j) d 21 6 rfl).trans ((extract_of_hi (op ++ i) j 16 6 rfl).trans ((extract_of_hi op i 0 6 rfl).trans ((extract_all op))))

/-! enc1RI20 -/
@[simp] theorem rdOf_enc1RI20 (op : BitVec 7) (i : BitVec 20) (d : BitVec 5) : rdOf (enc1RI20 op i d) = d :=
  (extract_of_lo (op ++ i) d 0 5 (by decide)).trans ((extract_all d))
@[simp] theorem rjOf_enc1RI20 (op : BitVec 7) (i : BitVec 20) (d : BitVec 5) : rjOf (enc1RI20 op i d) = i.extractLsb' 0 5 :=
  (extract_of_hi (op ++ i) d 0 5 rfl).trans ((extract_of_lo op i 0 5 (by decide)))
@[simp] theorem rkOf_enc1RI20 (op : BitVec 7) (i : BitVec 20) (d : BitVec 5) : rkOf (enc1RI20 op i d) = i.extractLsb' 5 5 :=
  (extract_of_hi (op ++ i) d 5 5 rfl).trans ((extract_of_lo op i 5 5 (by decide)))
@[simp] theorem raOf_enc1RI20 (op : BitVec 7) (i : BitVec 20) (d : BitVec 5) : raOf (enc1RI20 op i d) = i.extractLsb' 10 5 :=
  (extract_of_hi (op ++ i) d 10 5 rfl).trans ((extract_of_lo op i 10 5 (by decide)))
@[simp] theorem cdOf_enc1RI20 (op : BitVec 7) (i : BitVec 20) (d : BitVec 5) : cdOf (enc1RI20 op i d) = d.extractLsb' 0 3 :=
  (extract_of_lo (op ++ i) d 0 3 (by decide))
@[simp] theorem cjOf_enc1RI20 (op : BitVec 7) (i : BitVec 20) (d : BitVec 5) : cjOf (enc1RI20 op i d) = i.extractLsb' 0 3 :=
  (extract_of_hi (op ++ i) d 0 3 rfl).trans ((extract_of_lo op i 0 3 (by decide)))
@[simp] theorem caOf_enc1RI20 (op : BitVec 7) (i : BitVec 20) (d : BitVec 5) : caOf (enc1RI20 op i d) = i.extractLsb' 10 3 :=
  (extract_of_hi (op ++ i) d 10 3 rfl).trans ((extract_of_lo op i 10 3 (by decide)))
@[simp] theorem imm12Of_enc1RI20 (op : BitVec 7) (i : BitVec 20) (d : BitVec 5) : imm12Of (enc1RI20 op i d) = i.extractLsb' 5 12 :=
  (extract_of_hi (op ++ i) d 5 12 rfl).trans ((extract_of_lo op i 5 12 (by decide)))
@[simp] theorem imm14Of_enc1RI20 (op : BitVec 7) (i : BitVec 20) (d : BitVec 5) : imm14Of (enc1RI20 op i d) = i.extractLsb' 5 14 :=
  (extract_of_hi (op ++ i) d 5 14 rfl).trans ((extract_of_lo op i 5 14 (by decide)))
@[simp] theorem imm20Of_enc1RI20 (op : BitVec 7) (i : BitVec 20) (d : BitVec 5) : imm20Of (enc1RI20 op i d) = i :=
  (extract_of_hi (op ++ i) d 0 20 rfl).trans ((extract_of_lo op i 0 20 (by decide)).trans ((extract_all i)))
@[simp] theorem op6_enc1RI20 (op : BitVec 7) (i : BitVec 20) (d : BitVec 5) : op6 (enc1RI20 op i d) = op.extractLsb' 1 6 :=
  (extract_of_hi (op ++ i) d 21 6 rfl).trans ((extract_of_hi op i 1 6 rfl))

/-! encCode -/
@[simp] theorem rdOf_encCode (op : BitVec 17) (c : BitVec 15) : rdOf (encCode op c) = c.extractLsb' 0 5 :=
  (extract_of_lo op c 0 5 (by decide))
@[simp] theorem rjOf_encCode (op : BitVec 17) (c : BitVec 15) : rjOf (encCode op c) = c.extractLsb' 5 5 :=
  (extract_of_lo op c 5 5 (by decide))
@[simp] theorem rkOf_encCode (op : BitVec 17) (c : BitVec 15) : rkOf (encCode op c) = c.extractLsb' 10 5 :=
  (extract_of_lo op c 10 5 (by decide))
@[simp] theorem raOf_encCode (op : BitVec 17) (c : BitVec 15) : raOf (encCode op c) = op.extractLsb' 0 5 :=
  (extract_of_hi op c 0 5 rfl)
@[simp] theorem cdOf_encCode (op : BitVec 17) (c : BitVec 15) : cdOf (encCode op c) = c.extractLsb' 0 3 :=
  (extract_of_lo op c 0 3 (by decide))
@[simp] theorem cjOf_encCode (op : BitVec 17) (c : BitVec 15) : cjOf (encCode op c) = c.extractLsb' 5 3 :=
  (extract_of_lo op c 5 3 (by decide))
@[simp] theorem caOf_encCode (op : BitVec 17) (c : BitVec 15) : caOf (encCode op c) = op.extractLsb' 0 3 :=
  (extract_of_hi op c 0 3 rfl)
@[simp] theorem codeOf_encCode (op : BitVec 17) (c : BitVec 15) : codeOf (encCode op c) = c :=
  (extract_of_lo op c 0 15 (by decide)).trans ((extract_all c))
@[simp] theorem op6_encCode (op : BitVec 17) (c : BitVec 15) : op6 (encCode op c) = op.extractLsb' 11 6 :=
  (extract_of_hi op c 11 6 rfl)
@[simp] theorem op8_encCode (op : BitVec 17) (c : BitVec 15) : op8 (encCode op c) = op.extractLsb' 9 8 :=
  (extract_of_hi op c 9 8 rfl)
@[simp] theorem op10_encCode (op : BitVec 17) (c : BitVec 15) : op10 (encCode op c) = op.extractLsb' 7 10 :=
  (extract_of_hi op c 7 10 rfl)
@[simp] theorem op12_encCode (op : BitVec 17) (c : BitVec 15) : op12 (encCode op c) = op.extractLsb' 5 12 :=
  (extract_of_hi op c 5 12 rfl)
@[simp] theorem op17_encCode (op : BitVec 17) (c : BitVec 15) : op17 (encCode op c) = op :=
  (extract_of_hi op c 0 17 rfl).trans ((extract_all op))

/-! Flag numbers in a register slot. -/

@[simp] theorem flagSlot_low (c : CFlag) : (flagSlot c).extractLsb' 0 3 = c :=
  (extract_of_lo (0 : BitVec 2) c 0 3 (by decide)).trans (extract_all c)
@[simp] theorem flagSlot_high (c : CFlag) : (flagSlot c).extractLsb' 3 2 = 0 :=
  (extract_of_hi (0 : BitVec 2) c 0 2 rfl).trans (by decide)

/-! Split immediates and the top fields of the remaining formats. -/

@[simp] theorem op6_enc1RI21 (op : BitVec 6) (i : BitVec 21) (e : BitVec 2) (c : BitVec 3) : op6 (enc1RI21 op i e c) = op :=
  (extract_of_hi (op ++ i.extractLsb' 0 16 ++ e ++ c) (i.extractLsb' 16 5) 21 6 rfl).trans
    ((extract_of_hi (op ++ i.extractLsb' 0 16 ++ e) c 18 6 rfl).trans
      ((extract_of_hi (op ++ i.extractLsb' 0 16) e 16 6 rfl).trans
        ((extract_of_hi op (i.extractLsb' 0 16) 0 6 rfl).trans (extract_all op))))

@[simp] theorem cjOf_enc1RI21 (op : BitVec 6) (i : BitVec 21) (e : BitVec 2) (c : BitVec 3) : cjOf (enc1RI21 op i e c) = c :=
  (extract_of_hi (op ++ i.extractLsb' 0 16 ++ e ++ c) (i.extractLsb' 16 5) 0 3 rfl).trans
    ((extract_of_lo (op ++ i.extractLsb' 0 16 ++ e) c 0 3 (by decide)).trans (extract_all c))

@[simp] theorem branchBits_enc1RI21 (op : BitVec 6) (i : BitVec 21) (e : BitVec 2) (c : BitVec 3) :
    (enc1RI21 op i e c).extractLsb' 8 2 = e :=
  (extract_of_hi (op ++ i.extractLsb' 0 16 ++ e ++ c) (i.extractLsb' 16 5) 3 2 rfl).trans
    ((extract_of_hi (op ++ i.extractLsb' 0 16 ++ e) c 0 2 rfl).trans
      ((extract_of_lo (op ++ i.extractLsb' 0 16) e 0 2 (by decide)).trans (extract_all e)))

/-- The two parts of a vector make it again. -/
theorem append_extract {w v : Nat} (x : BitVec (w + v)) : x.extractLsb' v w ++ x.extractLsb' 0 v = x := by
  apply BitVec.eq_of_getLsbD_eq
  intro i hi
  rw [BitVec.getLsbD_append]
  by_cases h : i < v
  · simp [h]
  · simp [h, show i - v < w by omega, show v + (i - v) = i by omega]

@[simp] theorem offs21Of_enc1RI21 (op : BitVec 6) (i : BitVec 21) (e : BitVec 2) (c : BitVec 3) :
    offs21Of (enc1RI21 op i e c) = i := by
  have hlo : (enc1RI21 op i e c).extractLsb' 0 5 = i.extractLsb' 16 5 :=
    (extract_of_lo (op ++ i.extractLsb' 0 16 ++ e ++ c) (i.extractLsb' 16 5) 0 5 (by decide)).trans (extract_all _)
  have hhi : (enc1RI21 op i e c).extractLsb' 10 16 = i.extractLsb' 0 16 :=
    (extract_of_hi (op ++ i.extractLsb' 0 16 ++ e ++ c) (i.extractLsb' 16 5) 5 16 rfl).trans
      ((extract_of_hi (op ++ i.extractLsb' 0 16 ++ e) c 2 16 rfl).trans
        ((extract_of_hi (op ++ i.extractLsb' 0 16) e 0 16 rfl).trans
          ((extract_of_lo op (i.extractLsb' 0 16) 0 16 (by decide)).trans (extract_all _))))
  unfold offs21Of
  rw [hlo, hhi]
  exact append_extract (w := 5) (v := 16) i

@[simp] theorem op6_encI26 (op : BitVec 6) (i : BitVec 26) : op6 (encI26 op i) = op :=
  (extract_of_hi (op ++ i.extractLsb' 0 16) (i.extractLsb' 16 10) 16 6 rfl).trans
    ((extract_of_hi op (i.extractLsb' 0 16) 0 6 rfl).trans (extract_all op))

@[simp] theorem offs26Of_encI26 (op : BitVec 6) (i : BitVec 26) : offs26Of (encI26 op i) = i := by
  have hlo : (encI26 op i).extractLsb' 0 10 = i.extractLsb' 16 10 :=
    (extract_of_lo (op ++ i.extractLsb' 0 16) (i.extractLsb' 16 10) 0 10 (by decide)).trans (extract_all _)
  have hhi : (encI26 op i).extractLsb' 10 16 = i.extractLsb' 0 16 :=
    (extract_of_hi (op ++ i.extractLsb' 0 16) (i.extractLsb' 16 10) 0 16 rfl).trans
      ((extract_of_lo op (i.extractLsb' 0 16) 0 16 (by decide)).trans (extract_all _))
  unfold offs26Of
  rw [hlo, hhi]
  exact append_extract (w := 10) (v := 16) i

@[simp] theorem top14_encSel (op : BitVec 14) (ca : BitVec 3) (k j d : BitVec 5) :
    (encSel op ca k j d).extractLsb' 18 14 = op :=
  (extract_of_hi (op ++ ca ++ k ++ j) d 13 14 rfl).trans
    ((extract_of_hi (op ++ ca ++ k) j 8 14 rfl).trans
      ((extract_of_hi (op ++ ca) k 3 14 rfl).trans ((extract_of_hi op ca 0 14 rfl).trans (extract_all op))))

@[simp] theorem top7_enc1RI20 (op : BitVec 7) (i : BitVec 20) (d : BitVec 5) :
    (enc1RI20 op i d).extractLsb' 25 7 = op :=
  (extract_of_hi (op ++ i) d 20 7 rfl).trans ((extract_of_hi op i 0 7 rfl).trans (extract_all op))

/-- Outside the words whose top seventeen bits are zero, the words of the first group are 3R words. -/
theorem decodeCounter_of_op17 (w : Word) (h : op17 w ≠ 0) : decodeCounter w = decodeInt3R w := by
  have e : op17 w = (op22 w).extractLsb' 5 17 := by
    apply BitVec.eq_of_getLsbD_eq
    intro i hi
    simp [op17, op22, hi, show 5 + i < 22 by omega, show 10 + (5 + i) = 15 + i by omega]
  unfold decodeCounter
  split
  case h_1 a => exact absurd (e.trans (by rw [a]; rfl)) h
  case h_2 a => exact absurd (e.trans (by rw [a]; rfl)) h
  case h_3 => rfl

/-! Bytes. -/

/-- The word made of a word's bytes is the word. -/
@[simp] theorem wordOfBytes_bytes (w : Word) :
    wordOfBytes (w.extractLsb' 0 8) (w.extractLsb' 8 8) (w.extractLsb' 16 8) (w.extractLsb' 24 8) = w := by
  apply BitVec.eq_of_getLsbD_eq
  intro i hi
  have h1 := BitVec.getLsbD_append (x := w.extractLsb' 24 8 ++ w.extractLsb' 16 8 ++ w.extractLsb' 8 8)
    (y := w.extractLsb' 0 8) (i := i)
  have h2 := BitVec.getLsbD_append (x := w.extractLsb' 24 8 ++ w.extractLsb' 16 8) (y := w.extractLsb' 8 8) (i := i - 8)
  have h3 := BitVec.getLsbD_append (x := w.extractLsb' 24 8) (y := w.extractLsb' 16 8) (i := i - 8 - 8)
  refine h1.trans ?_
  rw [h2, h3]
  simp only [BitVec.getLsbD_extractLsb']
  by_cases a : i < 8
  · simp [a]
  · by_cases b : i < 16
    · simp [a, show i - 8 < 8 by omega, show 8 + (i - 8) = i by omega]
    · by_cases c : i < 24
      · simp [a, show ¬ i - 8 < 8 by omega, show i - 8 - 8 < 8 by omega, show 16 + (i - 8 - 8) = i by omega]
      · simp [a, show ¬ i - 8 < 8 by omega, show ¬ i - 8 - 8 < 8 by omega, show i - 8 - 8 - 8 < 8 by omega,
          show 24 + (i - 8 - 8 - 8) = i by omega]

/-- Decoding a word's bytes is decoding the word. -/
theorem decode_bytesOfWord (w : Word) (rest : List Byte) :
    decode (bytesOfWord w ++ rest) = (decodeWord w).map fun i => (i, rest) := by
  simp only [bytesOfWord, List.cons_append, List.nil_append, decode, wordOfBytes_bytes]
  cases decodeWord w <;> rfl

end Sys2Proof
end

