-- ==== Sys2Proof/Laws/Memory.lean ====
section
/-! SUPPORT. Memory: a read after a write, what a write leaves alone, the canonical form. -/

namespace Sys2Proof.Machine

@[simp] theorem Memory.byte_nil (a : Nat) : Memory.byte [] a = 0 := rfl

/-- No entry names an address below every entry's. -/
theorem Memory.byte_of_lt (m : Memory) (a : Nat) (h : ∀ c ∈ m, a < c.1) : Memory.byte m a = 0 := by
  induction m with
  | nil => rfl
  | cons c m ih =>
    obtain ⟨x, v⟩ := c
    have h1 : a < x := h (x, v) (by simp)
    rw [Memory.byte, if_neg (by omega)]
    exact ih fun c hc => h c (by simp [hc])

/-- Everything `put` leaves at any address. -/
theorem Memory.byte_put (m : Memory) (hm : m.wf) (a b : Nat) (v : Byte) :
    (m.put a v).byte b = if b = a then v else m.byte b := by
  induction m with
  | nil =>
    by_cases hv : v = Memory.unlisted
    · subst hv; by_cases hb : b = a <;> simp [Memory.put, Memory.byte, hb] <;> rfl
    · simp only [Memory.put, if_neg hv, Memory.byte, eq_comm]
  | cons c m ih =>
    obtain ⟨x, w⟩ := c
    obtain ⟨hp, hn⟩ := hm
    rw [List.pairwise_cons] at hp
    have ih := ih ⟨hp.2, fun c hc => hn c (by simp [hc])⟩
    have hlow : Memory.byte m x = 0 := Memory.byte_of_lt m x fun c hc => hp.1 c hc
    simp only [Memory.put]
    by_cases h1 : a < x
    · have hbelow : Memory.byte m a = 0 :=
        Memory.byte_of_lt m a fun c hc => lt_trans h1 (hp.1 c hc)
      by_cases hv : v = Memory.unlisted
      · subst hv
        by_cases hb : b = a
        · subst hb
          simp only [if_pos h1, if_true, Memory.byte, if_neg (show ¬ b = x by omega), hbelow]
          rfl
        · simp only [if_pos h1, if_true, if_neg hb]
      · simp only [if_pos h1, if_neg hv, Memory.byte]
    · by_cases h2 : a = x
      · subst h2
        by_cases hv : v = Memory.unlisted
        · subst hv
          by_cases hb : b = a
          · subst hb
            simp only [lt_irrefl, if_false, if_true, hlow]
            rfl
          · simp only [lt_irrefl, if_false, if_true, Memory.byte, if_neg hb]
        · by_cases hb : b = a <;> simp [hv, Memory.byte, hb]
      · simp only [if_neg h1, if_neg h2, Memory.byte, ih]
        by_cases hb : b = x
        · subst hb; simp [show ¬ b = a from fun e => h2 e.symm]
        · simp [hb]

/-- Addresses of a memory after `put` come from it or are the one put. -/
theorem Memory.mem_put (m : Memory) (a : Nat) (v : Byte) (c : Host.Cell) (h : c ∈ m.put a v) :
    c ∈ m ∨ (c = (a, v) ∧ v ≠ Memory.unlisted) := by
  induction m with
  | nil =>
    by_cases hv : v = Memory.unlisted <;> simp [Memory.put, hv] at h
    exact .inr ⟨h, hv⟩
  | cons d m ih =>
    obtain ⟨x, w⟩ := d
    simp only [Memory.put] at h
    split at h
    · split at h
      · exact .inl h
      · rcases List.mem_cons.1 h with h | h
        · exact .inr ⟨h, ‹_›⟩
        · exact .inl h
    · split at h
      · split at h
        · exact .inl (List.mem_cons_of_mem _ h)
        · rcases List.mem_cons.1 h with h | h
          · exact .inr ⟨h, ‹_›⟩
          · exact .inl (List.mem_cons_of_mem _ h)
      · rcases List.mem_cons.1 h with h | h
        · exact .inl (by simp [h])
        · rcases ih h with h | h
          · exact .inl (List.mem_cons_of_mem _ h)
          · exact .inr h

/-- `put` keeps the canonical form. -/
theorem Memory.wf_put (m : Memory) (hm : m.wf) (a : Nat) (v : Byte) : (m.put a v).wf := by
  refine ⟨?_, fun c hc => ?_⟩
  · induction m with
    | nil => by_cases hv : v = Memory.unlisted <;> simp [Memory.put, hv]
    | cons d m ih =>
      obtain ⟨x, w⟩ := d
      obtain ⟨hp, hn⟩ := hm
      have hp' := List.pairwise_cons.1 hp
      have ih := ih ⟨hp'.2, fun c hc => hn c (by simp [hc])⟩
      simp only [Memory.put]
      split
      · split
        · exact hp
        · refine List.pairwise_cons.2 ⟨fun c hc => ?_, hp⟩
          rcases List.mem_cons.1 hc with h | h
          · subst h; assumption
          · exact lt_trans ‹_› (hp'.1 c h)
      · split
        · subst x
          split
          · exact hp'.2
          · exact List.pairwise_cons.2 ⟨hp'.1, hp'.2⟩
        · refine List.pairwise_cons.2 ⟨fun c hc => ?_, ih⟩
          rcases Memory.mem_put m a v c hc with h | ⟨h, _⟩
          · exact hp'.1 c h
          · subst h; show x < a; omega
  · rcases Memory.mem_put m a v c hc with h | ⟨h, hv⟩
    · exact hm.2 c h
    · subst h; exact hv

/-- A write keeps the canonical form. -/
theorem Memory.wf_write (m : Memory) (hm : m.wf) (a : Nat) (v : DWord) (n : Nat) : (m.write a v n).wf := by
  induction n generalizing m a v with
  | zero => exact hm
  | succ n ih => exact ih _ (Memory.wf_put m hm _ _) _ _

/-- Everything a write leaves at any address: byte i of the value at the i-th address, the rest as before. -/
theorem Memory.byte_write (m : Memory) (hm : m.wf) (a b n : Nat) (v : DWord) :
    (m.write a v n).byte b = if a ≤ b ∧ b < a + n then (v >>> (8 * (b - a))).setWidth 8 else m.byte b := by
  induction n generalizing m a v with
  | zero =>
    rw [if_neg (by omega)]
    rfl
  | succ n ih =>
    rw [Memory.write, ih _ (Memory.wf_put m hm _ _), Memory.byte_put m hm]
    by_cases h1 : b = a
    · subst h1
      simp
    · by_cases h2 : a + 1 ≤ b ∧ b < a + 1 + n
      · rw [if_pos h2, if_pos (by omega), ← BitVec.shiftRight_add,
          show 8 + 8 * (b - (a + 1)) = 8 * (b - a) by omega]
      · rw [if_neg h2, if_neg h1, if_neg (by omega)]

/-- A write leaves every byte outside it alone. -/
theorem Memory.byte_write_outside (m : Memory) (hm : m.wf) (a b n : Nat) (v : DWord) (h : b < a ∨ a + n ≤ b) :
    (m.write a v n).byte b = m.byte b := by
  rw [Memory.byte_write m hm, if_neg (by omega)]

/-- What a read depends on. -/
theorem Memory.read_congr (m k : Memory) (a n : Nat) (h : ∀ b, a ≤ b → b < a + n → m.byte b = k.byte b) :
    m.read a n = k.read a n := by
  induction n generalizing a with
  | zero => rfl
  | succ n ih =>
    rw [Memory.read, Memory.read, ih (a + 1) fun b h1 h2 => h b (by omega) (by omega), h a (by omega) (by omega)]

/-- A read gathers its bytes: bit i is bit i mod 8 of byte i / 8. -/
theorem Memory.getLsbD_read (m : Memory) (a n i : Nat) (hi : i < 64) :
    (m.read a n).getLsbD i = (decide (i < 8 * n) && (m.byte (a + i / 8)).getLsbD (i % 8)) := by
  induction n generalizing a i with
  | zero => simp [Memory.read]
  | succ n ih =>
    rw [Memory.read, BitVec.getLsbD_or, BitVec.getLsbD_shiftLeft, BitVec.getLsbD_setWidth]
    by_cases h8 : i < 8
    · have h1 : i / 8 = 0 := by omega
      have h2 : i % 8 = i := by omega
      simp [h8, h1, h2, hi, show i < 8 * (n + 1) by omega]
    · rw [ih (a + 1) (i - 8) (by omega)]
      have h1 : a + 1 + (i - 8) / 8 = a + i / 8 := by omega
      have h2 : (i - 8) % 8 = i % 8 := by omega
      have h3 : (m.byte a).getLsbD i = false := BitVec.getLsbD_of_ge _ _ (by omega)
      simp [h8, h1, h2, h3, hi, show (i - 8 < 8 * n) = (i < 8 * (n + 1)) from propext (by omega)]

/-- A read after a write of the same bytes gives what was written. -/
theorem Memory.read_write (m : Memory) (hm : m.wf) (a n : Nat) (v : DWord) (i : Nat) (hi : i < 64) :
    ((m.write a v n).read a n).getLsbD i = (decide (i < 8 * n) && v.getLsbD i) := by
  rw [Memory.getLsbD_read _ _ _ _ hi]
  by_cases h : i < 8 * n
  · rw [Memory.byte_write m hm, if_pos (by omega), BitVec.getLsbD_setWidth, BitVec.getLsbD_ushiftRight,
      show 8 * (a + i / 8 - a) + i % 8 = i by omega]
    simp [h, show i % 8 < 8 by omega]
  · simp [h]

/-- A read of bytes a write does not touch. -/
theorem Memory.read_write_outside (m : Memory) (hm : m.wf) (a n b k : Nat) (v : DWord) (h : b + k ≤ a ∨ a + n ≤ b) :
    (m.write a v n).read b k = m.read b k :=
  Memory.read_congr _ _ _ _ fun _ _ _ => Memory.byte_write_outside m hm _ _ _ _ (by omega)

end Sys2Proof.Machine
end

