-- ==== Sys2Proof/Laws/State.lean ====
section
/-! SUPPORT. What each update of the state leaves in each field, and in what the register accessors read: by definition, so that no
later proof unfolds a record update. -/

namespace Sys2Proof.Machine

/-! gprSet -/
@[simp] theorem gprSet_cfg (r : Reg) (v : Word) (s : State) : (gprSet r v s).cfg = s.cfg := rfl
@[simp] theorem gprSet_gpr (r : Reg) (v : Word) (s : State) : (gprSet r v s).gpr = if r = 0 then s.gpr else s.gpr.set r.toNat v r.isLt := rfl
@[simp] theorem gprSet_pc (r : Reg) (v : Word) (s : State) : (gprSet r v s).pc = s.pc := rfl
@[simp] theorem gprSet_fpr (r : Reg) (v : Word) (s : State) : (gprSet r v s).fpr = s.fpr := rfl
@[simp] theorem gprSet_cf (r : Reg) (v : Word) (s : State) : (gprSet r v s).cf = s.cf := rfl
@[simp] theorem gprSet_fcsr0 (r : Reg) (v : Word) (s : State) : (gprSet r v s).fcsr0 = s.fcsr0 := rfl
@[simp] theorem gprSet_csr (r : Reg) (v : Word) (s : State) : (gprSet r v s).csr = s.csr := rfl
@[simp] theorem gprSet_llbit (r : Reg) (v : Word) (s : State) : (gprSet r v s).llbit = s.llbit := rfl
@[simp] theorem gprSet_lladdr (r : Reg) (v : Word) (s : State) : (gprSet r v s).lladdr = s.lladdr := rfl
@[simp] theorem gprSet_counter (r : Reg) (v : Word) (s : State) : (gprSet r v s).counter = s.counter := rfl
@[simp] theorem gprSet_timerVal (r : Reg) (v : Word) (s : State) : (gprSet r v s).timerVal = s.timerVal := rfl
@[simp] theorem gprSet_timerRun (r : Reg) (v : Word) (s : State) : (gprSet r v s).timerRun = s.timerRun := rfl
@[simp] theorem gprSet_waiting (r : Reg) (v : Word) (s : State) : (gprSet r v s).waiting = s.waiting := rfl
@[simp] theorem gprSet_tlb (r : Reg) (v : Word) (s : State) : (gprSet r v s).tlb = s.tlb := rfl
@[simp] theorem gprSet_mem (r : Reg) (v : Word) (s : State) : (gprSet r v s).mem = s.mem := rfl
@[simp] theorem gprSet_stale (r : Reg) (v : Word) (s : State) : (gprSet r v s).stale = s.stale := rfl
@[simp] theorem gprSet_io (r : Reg) (v : Word) (s : State) : (gprSet r v s).io = s.io := rfl
@[simp] theorem gprSet_draws (r : Reg) (v : Word) (s : State) : (gprSet r v s).draws = s.draws := rfl
@[simp] theorem gprSet_inputs (r : Reg) (v : Word) (s : State) : (gprSet r v s).inputs = s.inputs := rfl
@[simp] theorem fprGet_gprSet (q : FReg) (r : Reg) (v : Word) (s : State) : fprGet q (gprSet r v s) = fprGet q s := rfl
@[simp] theorem fprGetW_gprSet (q : FReg) (r : Reg) (v : Word) (s : State) : fprGetW q (gprSet r v s) = fprGetW q s := rfl
@[simp] theorem cfGet_gprSet (q : CFlag) (r : Reg) (v : Word) (s : State) : cfGet q (gprSet r v s) = cfGet q s := rfl

/-! fprSet -/
@[simp] theorem fprSet_cfg (r : FReg) (v : DWord) (s : State) : (fprSet r v s).cfg = s.cfg := rfl
@[simp] theorem fprSet_gpr (r : FReg) (v : DWord) (s : State) : (fprSet r v s).gpr = s.gpr := rfl
@[simp] theorem fprSet_pc (r : FReg) (v : DWord) (s : State) : (fprSet r v s).pc = s.pc := rfl
@[simp] theorem fprSet_fpr (r : FReg) (v : DWord) (s : State) : (fprSet r v s).fpr = s.fpr.set r.toNat v r.isLt := rfl
@[simp] theorem fprSet_cf (r : FReg) (v : DWord) (s : State) : (fprSet r v s).cf = s.cf := rfl
@[simp] theorem fprSet_fcsr0 (r : FReg) (v : DWord) (s : State) : (fprSet r v s).fcsr0 = s.fcsr0 := rfl
@[simp] theorem fprSet_csr (r : FReg) (v : DWord) (s : State) : (fprSet r v s).csr = s.csr := rfl
@[simp] theorem fprSet_llbit (r : FReg) (v : DWord) (s : State) : (fprSet r v s).llbit = s.llbit := rfl
@[simp] theorem fprSet_lladdr (r : FReg) (v : DWord) (s : State) : (fprSet r v s).lladdr = s.lladdr := rfl
@[simp] theorem fprSet_counter (r : FReg) (v : DWord) (s : State) : (fprSet r v s).counter = s.counter := rfl
@[simp] theorem fprSet_timerVal (r : FReg) (v : DWord) (s : State) : (fprSet r v s).timerVal = s.timerVal := rfl
@[simp] theorem fprSet_timerRun (r : FReg) (v : DWord) (s : State) : (fprSet r v s).timerRun = s.timerRun := rfl
@[simp] theorem fprSet_waiting (r : FReg) (v : DWord) (s : State) : (fprSet r v s).waiting = s.waiting := rfl
@[simp] theorem fprSet_tlb (r : FReg) (v : DWord) (s : State) : (fprSet r v s).tlb = s.tlb := rfl
@[simp] theorem fprSet_mem (r : FReg) (v : DWord) (s : State) : (fprSet r v s).mem = s.mem := rfl
@[simp] theorem fprSet_stale (r : FReg) (v : DWord) (s : State) : (fprSet r v s).stale = s.stale := rfl
@[simp] theorem fprSet_io (r : FReg) (v : DWord) (s : State) : (fprSet r v s).io = s.io := rfl
@[simp] theorem fprSet_draws (r : FReg) (v : DWord) (s : State) : (fprSet r v s).draws = s.draws := rfl
@[simp] theorem fprSet_inputs (r : FReg) (v : DWord) (s : State) : (fprSet r v s).inputs = s.inputs := rfl
@[simp] theorem gprGet_fprSet (q : Reg) (r : FReg) (v : DWord) (s : State) : gprGet q (fprSet r v s) = gprGet q s := rfl
@[simp] theorem cfGet_fprSet (q : CFlag) (r : FReg) (v : DWord) (s : State) : cfGet q (fprSet r v s) = cfGet q s := rfl

/-! fprSetW -/
@[simp] theorem fprSetW_cfg (r : FReg) (v : Word) (s : State) : (fprSetW r v s).cfg = s.cfg := rfl
@[simp] theorem fprSetW_gpr (r : FReg) (v : Word) (s : State) : (fprSetW r v s).gpr = s.gpr := rfl
@[simp] theorem fprSetW_pc (r : FReg) (v : Word) (s : State) : (fprSetW r v s).pc = s.pc := rfl
@[simp] theorem fprSetW_fpr (r : FReg) (v : Word) (s : State) : (fprSetW r v s).fpr = s.fpr.set r.toNat (Config.freeUpper s.draws ++ v) r.isLt := rfl
@[simp] theorem fprSetW_cf (r : FReg) (v : Word) (s : State) : (fprSetW r v s).cf = s.cf := rfl
@[simp] theorem fprSetW_fcsr0 (r : FReg) (v : Word) (s : State) : (fprSetW r v s).fcsr0 = s.fcsr0 := rfl
@[simp] theorem fprSetW_csr (r : FReg) (v : Word) (s : State) : (fprSetW r v s).csr = s.csr := rfl
@[simp] theorem fprSetW_llbit (r : FReg) (v : Word) (s : State) : (fprSetW r v s).llbit = s.llbit := rfl
@[simp] theorem fprSetW_lladdr (r : FReg) (v : Word) (s : State) : (fprSetW r v s).lladdr = s.lladdr := rfl
@[simp] theorem fprSetW_counter (r : FReg) (v : Word) (s : State) : (fprSetW r v s).counter = s.counter := rfl
@[simp] theorem fprSetW_timerVal (r : FReg) (v : Word) (s : State) : (fprSetW r v s).timerVal = s.timerVal := rfl
@[simp] theorem fprSetW_timerRun (r : FReg) (v : Word) (s : State) : (fprSetW r v s).timerRun = s.timerRun := rfl
@[simp] theorem fprSetW_waiting (r : FReg) (v : Word) (s : State) : (fprSetW r v s).waiting = s.waiting := rfl
@[simp] theorem fprSetW_tlb (r : FReg) (v : Word) (s : State) : (fprSetW r v s).tlb = s.tlb := rfl
@[simp] theorem fprSetW_mem (r : FReg) (v : Word) (s : State) : (fprSetW r v s).mem = s.mem := rfl
@[simp] theorem fprSetW_stale (r : FReg) (v : Word) (s : State) : (fprSetW r v s).stale = s.stale := rfl
@[simp] theorem fprSetW_io (r : FReg) (v : Word) (s : State) : (fprSetW r v s).io = s.io := rfl
@[simp] theorem fprSetW_draws (r : FReg) (v : Word) (s : State) : (fprSetW r v s).draws = s.draws := rfl
@[simp] theorem fprSetW_inputs (r : FReg) (v : Word) (s : State) : (fprSetW r v s).inputs = s.inputs := rfl
@[simp] theorem gprGet_fprSetW (q : Reg) (r : FReg) (v : Word) (s : State) : gprGet q (fprSetW r v s) = gprGet q s := rfl
@[simp] theorem cfGet_fprSetW (q : CFlag) (r : FReg) (v : Word) (s : State) : cfGet q (fprSetW r v s) = cfGet q s := rfl

/-! cfSet -/
@[simp] theorem cfSet_cfg (c : CFlag) (b : Bool) (s : State) : (cfSet c b s).cfg = s.cfg := rfl
@[simp] theorem cfSet_gpr (c : CFlag) (b : Bool) (s : State) : (cfSet c b s).gpr = s.gpr := rfl
@[simp] theorem cfSet_pc (c : CFlag) (b : Bool) (s : State) : (cfSet c b s).pc = s.pc := rfl
@[simp] theorem cfSet_fpr (c : CFlag) (b : Bool) (s : State) : (cfSet c b s).fpr = s.fpr := rfl
@[simp] theorem cfSet_cf (c : CFlag) (b : Bool) (s : State) : (cfSet c b s).cf = s.cf.set c.toNat b c.isLt := rfl
@[simp] theorem cfSet_fcsr0 (c : CFlag) (b : Bool) (s : State) : (cfSet c b s).fcsr0 = s.fcsr0 := rfl
@[simp] theorem cfSet_csr (c : CFlag) (b : Bool) (s : State) : (cfSet c b s).csr = s.csr := rfl
@[simp] theorem cfSet_llbit (c : CFlag) (b : Bool) (s : State) : (cfSet c b s).llbit = s.llbit := rfl
@[simp] theorem cfSet_lladdr (c : CFlag) (b : Bool) (s : State) : (cfSet c b s).lladdr = s.lladdr := rfl
@[simp] theorem cfSet_counter (c : CFlag) (b : Bool) (s : State) : (cfSet c b s).counter = s.counter := rfl
@[simp] theorem cfSet_timerVal (c : CFlag) (b : Bool) (s : State) : (cfSet c b s).timerVal = s.timerVal := rfl
@[simp] theorem cfSet_timerRun (c : CFlag) (b : Bool) (s : State) : (cfSet c b s).timerRun = s.timerRun := rfl
@[simp] theorem cfSet_waiting (c : CFlag) (b : Bool) (s : State) : (cfSet c b s).waiting = s.waiting := rfl
@[simp] theorem cfSet_tlb (c : CFlag) (b : Bool) (s : State) : (cfSet c b s).tlb = s.tlb := rfl
@[simp] theorem cfSet_mem (c : CFlag) (b : Bool) (s : State) : (cfSet c b s).mem = s.mem := rfl
@[simp] theorem cfSet_stale (c : CFlag) (b : Bool) (s : State) : (cfSet c b s).stale = s.stale := rfl
@[simp] theorem cfSet_io (c : CFlag) (b : Bool) (s : State) : (cfSet c b s).io = s.io := rfl
@[simp] theorem cfSet_draws (c : CFlag) (b : Bool) (s : State) : (cfSet c b s).draws = s.draws := rfl
@[simp] theorem cfSet_inputs (c : CFlag) (b : Bool) (s : State) : (cfSet c b s).inputs = s.inputs := rfl
@[simp] theorem gprGet_cfSet (q : Reg) (c : CFlag) (b : Bool) (s : State) : gprGet q (cfSet c b s) = gprGet q s := rfl
@[simp] theorem fprGet_cfSet (q : FReg) (c : CFlag) (b : Bool) (s : State) : fprGet q (cfSet c b s) = fprGet q s := rfl
@[simp] theorem fprGetW_cfSet (q : FReg) (c : CFlag) (b : Bool) (s : State) : fprGetW q (cfSet c b s) = fprGetW q s := rfl

/-! advance -/
@[simp] theorem advance_cfg (s : State) : (advance s).cfg = s.cfg := rfl
@[simp] theorem advance_gpr (s : State) : (advance s).gpr = s.gpr := rfl
@[simp] theorem advance_pc (s : State) : (advance s).pc = s.pc + 4 := rfl
@[simp] theorem advance_fpr (s : State) : (advance s).fpr = s.fpr := rfl
@[simp] theorem advance_cf (s : State) : (advance s).cf = s.cf := rfl
@[simp] theorem advance_fcsr0 (s : State) : (advance s).fcsr0 = s.fcsr0 := rfl
@[simp] theorem advance_csr (s : State) : (advance s).csr = s.csr := rfl
@[simp] theorem advance_llbit (s : State) : (advance s).llbit = s.llbit := rfl
@[simp] theorem advance_lladdr (s : State) : (advance s).lladdr = s.lladdr := rfl
@[simp] theorem advance_counter (s : State) : (advance s).counter = s.counter := rfl
@[simp] theorem advance_timerVal (s : State) : (advance s).timerVal = s.timerVal := rfl
@[simp] theorem advance_timerRun (s : State) : (advance s).timerRun = s.timerRun := rfl
@[simp] theorem advance_waiting (s : State) : (advance s).waiting = s.waiting := rfl
@[simp] theorem advance_tlb (s : State) : (advance s).tlb = s.tlb := rfl
@[simp] theorem advance_mem (s : State) : (advance s).mem = s.mem := rfl
@[simp] theorem advance_stale (s : State) : (advance s).stale = s.stale := rfl
@[simp] theorem advance_io (s : State) : (advance s).io = s.io := rfl
@[simp] theorem advance_draws (s : State) : (advance s).draws = s.draws := rfl
@[simp] theorem advance_inputs (s : State) : (advance s).inputs = s.inputs := rfl
@[simp] theorem gprGet_advance (q : Reg) (s : State) : gprGet q (advance s) = gprGet q s := rfl
@[simp] theorem fprGet_advance (q : FReg) (s : State) : fprGet q (advance s) = fprGet q s := rfl
@[simp] theorem fprGetW_advance (q : FReg) (s : State) : fprGetW q (advance s) = fprGetW q s := rfl
@[simp] theorem cfGet_advance (q : CFlag) (s : State) : cfGet q (advance s) = cfGet q s := rfl

/-! jumpTo -/
@[simp] theorem jumpTo_cfg (t : Word) (s : State) : (jumpTo t s).cfg = s.cfg := rfl
@[simp] theorem jumpTo_gpr (t : Word) (s : State) : (jumpTo t s).gpr = s.gpr := rfl
@[simp] theorem jumpTo_pc (t : Word) (s : State) : (jumpTo t s).pc = t := rfl
@[simp] theorem jumpTo_fpr (t : Word) (s : State) : (jumpTo t s).fpr = s.fpr := rfl
@[simp] theorem jumpTo_cf (t : Word) (s : State) : (jumpTo t s).cf = s.cf := rfl
@[simp] theorem jumpTo_fcsr0 (t : Word) (s : State) : (jumpTo t s).fcsr0 = s.fcsr0 := rfl
@[simp] theorem jumpTo_csr (t : Word) (s : State) : (jumpTo t s).csr = s.csr := rfl
@[simp] theorem jumpTo_llbit (t : Word) (s : State) : (jumpTo t s).llbit = s.llbit := rfl
@[simp] theorem jumpTo_lladdr (t : Word) (s : State) : (jumpTo t s).lladdr = s.lladdr := rfl
@[simp] theorem jumpTo_counter (t : Word) (s : State) : (jumpTo t s).counter = s.counter := rfl
@[simp] theorem jumpTo_timerVal (t : Word) (s : State) : (jumpTo t s).timerVal = s.timerVal := rfl
@[simp] theorem jumpTo_timerRun (t : Word) (s : State) : (jumpTo t s).timerRun = s.timerRun := rfl
@[simp] theorem jumpTo_waiting (t : Word) (s : State) : (jumpTo t s).waiting = s.waiting := rfl
@[simp] theorem jumpTo_tlb (t : Word) (s : State) : (jumpTo t s).tlb = s.tlb := rfl
@[simp] theorem jumpTo_mem (t : Word) (s : State) : (jumpTo t s).mem = s.mem := rfl
@[simp] theorem jumpTo_stale (t : Word) (s : State) : (jumpTo t s).stale = s.stale := rfl
@[simp] theorem jumpTo_io (t : Word) (s : State) : (jumpTo t s).io = s.io := rfl
@[simp] theorem jumpTo_draws (t : Word) (s : State) : (jumpTo t s).draws = s.draws := rfl
@[simp] theorem jumpTo_inputs (t : Word) (s : State) : (jumpTo t s).inputs = s.inputs := rfl
@[simp] theorem gprGet_jumpTo (q : Reg) (t : Word) (s : State) : gprGet q (jumpTo t s) = gprGet q s := rfl
@[simp] theorem fprGet_jumpTo (q : FReg) (t : Word) (s : State) : fprGet q (jumpTo t s) = fprGet q s := rfl
@[simp] theorem fprGetW_jumpTo (q : FReg) (t : Word) (s : State) : fprGetW q (jumpTo t s) = fprGetW q s := rfl
@[simp] theorem cfGet_jumpTo (q : CFlag) (t : Word) (s : State) : cfGet q (jumpTo t s) = cfGet q s := rfl

/-! enter -/
@[simp] theorem enter_cfg (x : Exc) (va : Word) (s : State) : (enter x va s).cfg = s.cfg := rfl
@[simp] theorem enter_gpr (x : Exc) (va : Word) (s : State) : (enter x va s).gpr = s.gpr := rfl
@[simp] theorem enter_pc (x : Exc) (va : Word) (s : State) : (enter x va s).pc = entryAddress x s := rfl
@[simp] theorem enter_fpr (x : Exc) (va : Word) (s : State) : (enter x va s).fpr = s.fpr := rfl
@[simp] theorem enter_cf (x : Exc) (va : Word) (s : State) : (enter x va s).cf = s.cf := rfl
@[simp] theorem enter_fcsr0 (x : Exc) (va : Word) (s : State) : (enter x va s).fcsr0 = s.fcsr0 := rfl
@[simp] theorem enter_llbit (x : Exc) (va : Word) (s : State) : (enter x va s).llbit = s.llbit := rfl
@[simp] theorem enter_lladdr (x : Exc) (va : Word) (s : State) : (enter x va s).lladdr = s.lladdr := rfl
@[simp] theorem enter_counter (x : Exc) (va : Word) (s : State) : (enter x va s).counter = s.counter := rfl
@[simp] theorem enter_timerVal (x : Exc) (va : Word) (s : State) : (enter x va s).timerVal = s.timerVal := rfl
@[simp] theorem enter_timerRun (x : Exc) (va : Word) (s : State) : (enter x va s).timerRun = s.timerRun := rfl
@[simp] theorem enter_waiting (x : Exc) (va : Word) (s : State) : (enter x va s).waiting = s.waiting := rfl
@[simp] theorem enter_tlb (x : Exc) (va : Word) (s : State) : (enter x va s).tlb = s.tlb := rfl
@[simp] theorem enter_mem (x : Exc) (va : Word) (s : State) : (enter x va s).mem = s.mem := rfl
@[simp] theorem enter_stale (x : Exc) (va : Word) (s : State) : (enter x va s).stale = s.stale := rfl
@[simp] theorem enter_io (x : Exc) (va : Word) (s : State) : (enter x va s).io = s.io := rfl
@[simp] theorem enter_draws (x : Exc) (va : Word) (s : State) : (enter x va s).draws = s.draws := rfl
@[simp] theorem enter_inputs (x : Exc) (va : Word) (s : State) : (enter x va s).inputs = s.inputs := rfl
@[simp] theorem gprGet_enter (q : Reg) (x : Exc) (va : Word) (s : State) : gprGet q (enter x va s) = gprGet q s := rfl
@[simp] theorem fprGet_enter (q : FReg) (x : Exc) (va : Word) (s : State) : fprGet q (enter x va s) = fprGet q s := rfl
@[simp] theorem fprGetW_enter (q : FReg) (x : Exc) (va : Word) (s : State) : fprGetW q (enter x va s) = fprGetW q s := rfl
@[simp] theorem cfGet_enter (q : CFlag) (x : Exc) (va : Word) (s : State) : cfGet q (enter x va s) = cfGet q s := rfl

/-! exceptionReturn -/
@[simp] theorem exceptionReturn_cfg (s : State) : (exceptionReturn s).cfg = s.cfg := rfl
@[simp] theorem exceptionReturn_gpr (s : State) : (exceptionReturn s).gpr = s.gpr := rfl
@[simp] theorem exceptionReturn_pc (s : State) : (exceptionReturn s).pc = s.csr.era := rfl
@[simp] theorem exceptionReturn_fpr (s : State) : (exceptionReturn s).fpr = s.fpr := rfl
@[simp] theorem exceptionReturn_cf (s : State) : (exceptionReturn s).cf = s.cf := rfl
@[simp] theorem exceptionReturn_fcsr0 (s : State) : (exceptionReturn s).fcsr0 = s.fcsr0 := rfl
@[simp] theorem exceptionReturn_llbit (s : State) : (exceptionReturn s).llbit = (s.llbit && s.csr.llbctl.getLsbD 2) := rfl
@[simp] theorem exceptionReturn_lladdr (s : State) : (exceptionReturn s).lladdr = s.lladdr := rfl
@[simp] theorem exceptionReturn_counter (s : State) : (exceptionReturn s).counter = s.counter := rfl
@[simp] theorem exceptionReturn_timerVal (s : State) : (exceptionReturn s).timerVal = s.timerVal := rfl
@[simp] theorem exceptionReturn_timerRun (s : State) : (exceptionReturn s).timerRun = s.timerRun := rfl
@[simp] theorem exceptionReturn_waiting (s : State) : (exceptionReturn s).waiting = s.waiting := rfl
@[simp] theorem exceptionReturn_tlb (s : State) : (exceptionReturn s).tlb = s.tlb := rfl
@[simp] theorem exceptionReturn_mem (s : State) : (exceptionReturn s).mem = s.mem := rfl
@[simp] theorem exceptionReturn_stale (s : State) : (exceptionReturn s).stale = s.stale := rfl
@[simp] theorem exceptionReturn_io (s : State) : (exceptionReturn s).io = s.io := rfl
@[simp] theorem exceptionReturn_draws (s : State) : (exceptionReturn s).draws = s.draws := rfl
@[simp] theorem exceptionReturn_inputs (s : State) : (exceptionReturn s).inputs = s.inputs := rfl
@[simp] theorem gprGet_exceptionReturn (q : Reg) (s : State) : gprGet q (exceptionReturn s) = gprGet q s := rfl
@[simp] theorem fprGet_exceptionReturn (q : FReg) (s : State) : fprGet q (exceptionReturn s) = fprGet q s := rfl
@[simp] theorem fprGetW_exceptionReturn (q : FReg) (s : State) : fprGetW q (exceptionReturn s) = fprGetW q s := rfl
@[simp] theorem cfGet_exceptionReturn (q : CFlag) (s : State) : cfGet q (exceptionReturn s) = cfGet q s := rfl

/-! afterLoad -/
@[simp] theorem afterLoad_cfg (p : Place) (n : Nat) (s : State) : (afterLoad p n s).cfg = s.cfg := rfl
@[simp] theorem afterLoad_gpr (p : Place) (n : Nat) (s : State) : (afterLoad p n s).gpr = s.gpr := rfl
@[simp] theorem afterLoad_pc (p : Place) (n : Nat) (s : State) : (afterLoad p n s).pc = s.pc := rfl
@[simp] theorem afterLoad_fpr (p : Place) (n : Nat) (s : State) : (afterLoad p n s).fpr = s.fpr := rfl
@[simp] theorem afterLoad_cf (p : Place) (n : Nat) (s : State) : (afterLoad p n s).cf = s.cf := rfl
@[simp] theorem afterLoad_fcsr0 (p : Place) (n : Nat) (s : State) : (afterLoad p n s).fcsr0 = s.fcsr0 := rfl
@[simp] theorem afterLoad_csr (p : Place) (n : Nat) (s : State) : (afterLoad p n s).csr = s.csr := rfl
@[simp] theorem afterLoad_llbit (p : Place) (n : Nat) (s : State) : (afterLoad p n s).llbit = s.llbit := rfl
@[simp] theorem afterLoad_lladdr (p : Place) (n : Nat) (s : State) : (afterLoad p n s).lladdr = s.lladdr := rfl
@[simp] theorem afterLoad_counter (p : Place) (n : Nat) (s : State) : (afterLoad p n s).counter = s.counter := rfl
@[simp] theorem afterLoad_timerVal (p : Place) (n : Nat) (s : State) : (afterLoad p n s).timerVal = s.timerVal := rfl
@[simp] theorem afterLoad_timerRun (p : Place) (n : Nat) (s : State) : (afterLoad p n s).timerRun = s.timerRun := rfl
@[simp] theorem afterLoad_waiting (p : Place) (n : Nat) (s : State) : (afterLoad p n s).waiting = s.waiting := rfl
@[simp] theorem afterLoad_tlb (p : Place) (n : Nat) (s : State) : (afterLoad p n s).tlb = s.tlb := rfl
@[simp] theorem afterLoad_mem (p : Place) (n : Nat) (s : State) : (afterLoad p n s).mem = s.mem := rfl
@[simp] theorem afterLoad_stale (p : Place) (n : Nat) (s : State) : (afterLoad p n s).stale = s.stale := rfl
@[simp] theorem afterLoad_io (p : Place) (n : Nat) (s : State) : (afterLoad p n s).io = if p.kind = .device then ⟨false, p.target.pa, n, loadValue p n s⟩ :: s.io else s.io := rfl
@[simp] theorem afterLoad_draws (p : Place) (n : Nat) (s : State) : (afterLoad p n s).draws = s.draws := rfl
@[simp] theorem afterLoad_inputs (p : Place) (n : Nat) (s : State) : (afterLoad p n s).inputs = s.inputs := rfl
@[simp] theorem gprGet_afterLoad (q : Reg) (p : Place) (n : Nat) (s : State) : gprGet q (afterLoad p n s) = gprGet q s := rfl
@[simp] theorem fprGet_afterLoad (q : FReg) (p : Place) (n : Nat) (s : State) : fprGet q (afterLoad p n s) = fprGet q s := rfl
@[simp] theorem fprGetW_afterLoad (q : FReg) (p : Place) (n : Nat) (s : State) : fprGetW q (afterLoad p n s) = fprGetW q s := rfl
@[simp] theorem cfGet_afterLoad (q : CFlag) (p : Place) (n : Nat) (s : State) : cfGet q (afterLoad p n s) = cfGet q s := rfl

/-! fcsrWrite -/
@[simp] theorem fcsrWrite_cfg (k : BitVec 5) (v : Word) (s : State) : (fcsrWrite k v s).cfg = s.cfg := rfl
@[simp] theorem fcsrWrite_gpr (k : BitVec 5) (v : Word) (s : State) : (fcsrWrite k v s).gpr = s.gpr := rfl
@[simp] theorem fcsrWrite_pc (k : BitVec 5) (v : Word) (s : State) : (fcsrWrite k v s).pc = s.pc := rfl
@[simp] theorem fcsrWrite_fpr (k : BitVec 5) (v : Word) (s : State) : (fcsrWrite k v s).fpr = s.fpr := rfl
@[simp] theorem fcsrWrite_cf (k : BitVec 5) (v : Word) (s : State) : (fcsrWrite k v s).cf = s.cf := rfl
@[simp] theorem fcsrWrite_csr (k : BitVec 5) (v : Word) (s : State) : (fcsrWrite k v s).csr = s.csr := rfl
@[simp] theorem fcsrWrite_llbit (k : BitVec 5) (v : Word) (s : State) : (fcsrWrite k v s).llbit = s.llbit := rfl
@[simp] theorem fcsrWrite_lladdr (k : BitVec 5) (v : Word) (s : State) : (fcsrWrite k v s).lladdr = s.lladdr := rfl
@[simp] theorem fcsrWrite_counter (k : BitVec 5) (v : Word) (s : State) : (fcsrWrite k v s).counter = s.counter := rfl
@[simp] theorem fcsrWrite_timerVal (k : BitVec 5) (v : Word) (s : State) : (fcsrWrite k v s).timerVal = s.timerVal := rfl
@[simp] theorem fcsrWrite_timerRun (k : BitVec 5) (v : Word) (s : State) : (fcsrWrite k v s).timerRun = s.timerRun := rfl
@[simp] theorem fcsrWrite_waiting (k : BitVec 5) (v : Word) (s : State) : (fcsrWrite k v s).waiting = s.waiting := rfl
@[simp] theorem fcsrWrite_tlb (k : BitVec 5) (v : Word) (s : State) : (fcsrWrite k v s).tlb = s.tlb := rfl
@[simp] theorem fcsrWrite_mem (k : BitVec 5) (v : Word) (s : State) : (fcsrWrite k v s).mem = s.mem := rfl
@[simp] theorem fcsrWrite_stale (k : BitVec 5) (v : Word) (s : State) : (fcsrWrite k v s).stale = s.stale := rfl
@[simp] theorem fcsrWrite_io (k : BitVec 5) (v : Word) (s : State) : (fcsrWrite k v s).io = s.io := rfl
@[simp] theorem fcsrWrite_draws (k : BitVec 5) (v : Word) (s : State) : (fcsrWrite k v s).draws = s.draws := rfl
@[simp] theorem fcsrWrite_inputs (k : BitVec 5) (v : Word) (s : State) : (fcsrWrite k v s).inputs = s.inputs := rfl
@[simp] theorem gprGet_fcsrWrite (q : Reg) (k : BitVec 5) (v : Word) (s : State) : gprGet q (fcsrWrite k v s) = gprGet q s := rfl
@[simp] theorem fprGet_fcsrWrite (q : FReg) (k : BitVec 5) (v : Word) (s : State) : fprGet q (fcsrWrite k v s) = fprGet q s := rfl
@[simp] theorem fprGetW_fcsrWrite (q : FReg) (k : BitVec 5) (v : Word) (s : State) : fprGetW q (fcsrWrite k v s) = fprGetW q s := rfl
@[simp] theorem cfGet_fcsrWrite (q : CFlag) (k : BitVec 5) (v : Word) (s : State) : cfGet q (fcsrWrite k v s) = cfGet q s := rfl

/-! setFpCause -/
@[simp] theorem setFpCause_cfg (e : BitVec 5) (s : State) : (setFpCause e s).cfg = s.cfg := rfl
@[simp] theorem setFpCause_gpr (e : BitVec 5) (s : State) : (setFpCause e s).gpr = s.gpr := rfl
@[simp] theorem setFpCause_pc (e : BitVec 5) (s : State) : (setFpCause e s).pc = s.pc := rfl
@[simp] theorem setFpCause_fpr (e : BitVec 5) (s : State) : (setFpCause e s).fpr = s.fpr := rfl
@[simp] theorem setFpCause_cf (e : BitVec 5) (s : State) : (setFpCause e s).cf = s.cf := rfl
@[simp] theorem setFpCause_fcsr0 (e : BitVec 5) (s : State) : (setFpCause e s).fcsr0 = setBits s.fcsr0 0x1F000000 (e.setWidth 32 <<< 24) := rfl
@[simp] theorem setFpCause_csr (e : BitVec 5) (s : State) : (setFpCause e s).csr = s.csr := rfl
@[simp] theorem setFpCause_llbit (e : BitVec 5) (s : State) : (setFpCause e s).llbit = s.llbit := rfl
@[simp] theorem setFpCause_lladdr (e : BitVec 5) (s : State) : (setFpCause e s).lladdr = s.lladdr := rfl
@[simp] theorem setFpCause_counter (e : BitVec 5) (s : State) : (setFpCause e s).counter = s.counter := rfl
@[simp] theorem setFpCause_timerVal (e : BitVec 5) (s : State) : (setFpCause e s).timerVal = s.timerVal := rfl
@[simp] theorem setFpCause_timerRun (e : BitVec 5) (s : State) : (setFpCause e s).timerRun = s.timerRun := rfl
@[simp] theorem setFpCause_waiting (e : BitVec 5) (s : State) : (setFpCause e s).waiting = s.waiting := rfl
@[simp] theorem setFpCause_tlb (e : BitVec 5) (s : State) : (setFpCause e s).tlb = s.tlb := rfl
@[simp] theorem setFpCause_mem (e : BitVec 5) (s : State) : (setFpCause e s).mem = s.mem := rfl
@[simp] theorem setFpCause_stale (e : BitVec 5) (s : State) : (setFpCause e s).stale = s.stale := rfl
@[simp] theorem setFpCause_io (e : BitVec 5) (s : State) : (setFpCause e s).io = s.io := rfl
@[simp] theorem setFpCause_draws (e : BitVec 5) (s : State) : (setFpCause e s).draws = s.draws := rfl
@[simp] theorem setFpCause_inputs (e : BitVec 5) (s : State) : (setFpCause e s).inputs = s.inputs := rfl
@[simp] theorem gprGet_setFpCause (q : Reg) (e : BitVec 5) (s : State) : gprGet q (setFpCause e s) = gprGet q s := rfl
@[simp] theorem fprGet_setFpCause (q : FReg) (e : BitVec 5) (s : State) : fprGet q (setFpCause e s) = fprGet q s := rfl
@[simp] theorem fprGetW_setFpCause (q : FReg) (e : BitVec 5) (s : State) : fprGetW q (setFpCause e s) = fprGetW q s := rfl
@[simp] theorem cfGet_setFpCause (q : CFlag) (e : BitVec 5) (s : State) : cfGet q (setFpCause e s) = cfGet q s := rfl

/-! addFpFlags -/
@[simp] theorem addFpFlags_cfg (e : BitVec 5) (s : State) : (addFpFlags e s).cfg = s.cfg := rfl
@[simp] theorem addFpFlags_gpr (e : BitVec 5) (s : State) : (addFpFlags e s).gpr = s.gpr := rfl
@[simp] theorem addFpFlags_pc (e : BitVec 5) (s : State) : (addFpFlags e s).pc = s.pc := rfl
@[simp] theorem addFpFlags_fpr (e : BitVec 5) (s : State) : (addFpFlags e s).fpr = s.fpr := rfl
@[simp] theorem addFpFlags_cf (e : BitVec 5) (s : State) : (addFpFlags e s).cf = s.cf := rfl
@[simp] theorem addFpFlags_fcsr0 (e : BitVec 5) (s : State) : (addFpFlags e s).fcsr0 = s.fcsr0 ||| (e.setWidth 32 <<< 16) := rfl
@[simp] theorem addFpFlags_csr (e : BitVec 5) (s : State) : (addFpFlags e s).csr = s.csr := rfl
@[simp] theorem addFpFlags_llbit (e : BitVec 5) (s : State) : (addFpFlags e s).llbit = s.llbit := rfl
@[simp] theorem addFpFlags_lladdr (e : BitVec 5) (s : State) : (addFpFlags e s).lladdr = s.lladdr := rfl
@[simp] theorem addFpFlags_counter (e : BitVec 5) (s : State) : (addFpFlags e s).counter = s.counter := rfl
@[simp] theorem addFpFlags_timerVal (e : BitVec 5) (s : State) : (addFpFlags e s).timerVal = s.timerVal := rfl
@[simp] theorem addFpFlags_timerRun (e : BitVec 5) (s : State) : (addFpFlags e s).timerRun = s.timerRun := rfl
@[simp] theorem addFpFlags_waiting (e : BitVec 5) (s : State) : (addFpFlags e s).waiting = s.waiting := rfl
@[simp] theorem addFpFlags_tlb (e : BitVec 5) (s : State) : (addFpFlags e s).tlb = s.tlb := rfl
@[simp] theorem addFpFlags_mem (e : BitVec 5) (s : State) : (addFpFlags e s).mem = s.mem := rfl
@[simp] theorem addFpFlags_stale (e : BitVec 5) (s : State) : (addFpFlags e s).stale = s.stale := rfl
@[simp] theorem addFpFlags_io (e : BitVec 5) (s : State) : (addFpFlags e s).io = s.io := rfl
@[simp] theorem addFpFlags_draws (e : BitVec 5) (s : State) : (addFpFlags e s).draws = s.draws := rfl
@[simp] theorem addFpFlags_inputs (e : BitVec 5) (s : State) : (addFpFlags e s).inputs = s.inputs := rfl
@[simp] theorem gprGet_addFpFlags (q : Reg) (e : BitVec 5) (s : State) : gprGet q (addFpFlags e s) = gprGet q s := rfl
@[simp] theorem fprGet_addFpFlags (q : FReg) (e : BitVec 5) (s : State) : fprGet q (addFpFlags e s) = fprGet q s := rfl
@[simp] theorem fprGetW_addFpFlags (q : FReg) (e : BitVec 5) (s : State) : fprGetW q (addFpFlags e s) = fprGetW q s := rfl
@[simp] theorem cfGet_addFpFlags (q : CFlag) (e : BitVec 5) (s : State) : cfGet q (addFpFlags e s) = cfGet q s := rfl

/-! configureTimer -/
@[simp] theorem configureTimer_cfg (s : State) : (configureTimer s).cfg = s.cfg := rfl
@[simp] theorem configureTimer_gpr (s : State) : (configureTimer s).gpr = s.gpr := rfl
@[simp] theorem configureTimer_pc (s : State) : (configureTimer s).pc = s.pc := rfl
@[simp] theorem configureTimer_fpr (s : State) : (configureTimer s).fpr = s.fpr := rfl
@[simp] theorem configureTimer_cf (s : State) : (configureTimer s).cf = s.cf := rfl
@[simp] theorem configureTimer_fcsr0 (s : State) : (configureTimer s).fcsr0 = s.fcsr0 := rfl
@[simp] theorem configureTimer_csr (s : State) : (configureTimer s).csr = s.csr := rfl
@[simp] theorem configureTimer_llbit (s : State) : (configureTimer s).llbit = s.llbit := rfl
@[simp] theorem configureTimer_lladdr (s : State) : (configureTimer s).lladdr = s.lladdr := rfl
@[simp] theorem configureTimer_counter (s : State) : (configureTimer s).counter = s.counter := rfl
@[simp] theorem configureTimer_timerRun (s : State) : (configureTimer s).timerRun = s.csr.tcfg.getLsbD 0 := rfl
@[simp] theorem configureTimer_waiting (s : State) : (configureTimer s).waiting = s.waiting := rfl
@[simp] theorem configureTimer_tlb (s : State) : (configureTimer s).tlb = s.tlb := rfl
@[simp] theorem configureTimer_mem (s : State) : (configureTimer s).mem = s.mem := rfl
@[simp] theorem configureTimer_stale (s : State) : (configureTimer s).stale = s.stale := rfl
@[simp] theorem configureTimer_io (s : State) : (configureTimer s).io = s.io := rfl
@[simp] theorem configureTimer_draws (s : State) : (configureTimer s).draws = s.draws := rfl
@[simp] theorem configureTimer_inputs (s : State) : (configureTimer s).inputs = s.inputs := rfl
@[simp] theorem gprGet_configureTimer (q : Reg) (s : State) : gprGet q (configureTimer s) = gprGet q s := rfl
@[simp] theorem fprGet_configureTimer (q : FReg) (s : State) : fprGet q (configureTimer s) = fprGet q s := rfl
@[simp] theorem fprGetW_configureTimer (q : FReg) (s : State) : fprGetW q (configureTimer s) = fprGetW q s := rfl
@[simp] theorem cfGet_configureTimer (q : CFlag) (s : State) : cfGet q (configureTimer s) = cfGet q s := rfl

/-! timerTick -/
@[simp] theorem timerTick_cfg (s : State) : (timerTick s).cfg = s.cfg := rfl
@[simp] theorem timerTick_gpr (s : State) : (timerTick s).gpr = s.gpr := rfl
@[simp] theorem timerTick_pc (s : State) : (timerTick s).pc = s.pc := rfl
@[simp] theorem timerTick_fpr (s : State) : (timerTick s).fpr = s.fpr := rfl
@[simp] theorem timerTick_cf (s : State) : (timerTick s).cf = s.cf := rfl
@[simp] theorem timerTick_fcsr0 (s : State) : (timerTick s).fcsr0 = s.fcsr0 := rfl
@[simp] theorem timerTick_llbit (s : State) : (timerTick s).llbit = s.llbit := rfl
@[simp] theorem timerTick_lladdr (s : State) : (timerTick s).lladdr = s.lladdr := rfl
@[simp] theorem timerTick_counter (s : State) : (timerTick s).counter = s.counter := rfl
@[simp] theorem timerTick_timerRun (s : State) : (timerTick s).timerRun = (s.timerRun && !(timerExpires s && !s.csr.tcfg.getLsbD 1)) := rfl
@[simp] theorem timerTick_waiting (s : State) : (timerTick s).waiting = s.waiting := rfl
@[simp] theorem timerTick_tlb (s : State) : (timerTick s).tlb = s.tlb := rfl
@[simp] theorem timerTick_mem (s : State) : (timerTick s).mem = s.mem := rfl
@[simp] theorem timerTick_stale (s : State) : (timerTick s).stale = s.stale := rfl
@[simp] theorem timerTick_io (s : State) : (timerTick s).io = s.io := rfl
@[simp] theorem timerTick_draws (s : State) : (timerTick s).draws = s.draws := rfl
@[simp] theorem timerTick_inputs (s : State) : (timerTick s).inputs = s.inputs := rfl
@[simp] theorem gprGet_timerTick (q : Reg) (s : State) : gprGet q (timerTick s) = gprGet q s := rfl
@[simp] theorem fprGet_timerTick (q : FReg) (s : State) : fprGet q (timerTick s) = fprGet q s := rfl
@[simp] theorem fprGetW_timerTick (q : FReg) (s : State) : fprGetW q (timerTick s) = fprGetW q s := rfl
@[simp] theorem cfGet_timerTick (q : CFlag) (s : State) : cfGet q (timerTick s) = cfGet q s := rfl

/-! tick -/
@[simp] theorem tick_cfg (s : State) : (tick s).cfg = s.cfg := rfl
@[simp] theorem tick_gpr (s : State) : (tick s).gpr = s.gpr := rfl
@[simp] theorem tick_pc (s : State) : (tick s).pc = s.pc := rfl
@[simp] theorem tick_fpr (s : State) : (tick s).fpr = s.fpr := rfl
@[simp] theorem tick_cf (s : State) : (tick s).cf = s.cf := rfl
@[simp] theorem tick_fcsr0 (s : State) : (tick s).fcsr0 = s.fcsr0 := rfl
@[simp] theorem tick_llbit (s : State) : (tick s).llbit = s.llbit := rfl
@[simp] theorem tick_lladdr (s : State) : (tick s).lladdr = s.lladdr := rfl
@[simp] theorem tick_counter (s : State) : (tick s).counter = s.counter + 1 := rfl
@[simp] theorem tick_waiting (s : State) : (tick s).waiting = s.waiting := rfl
@[simp] theorem tick_tlb (s : State) : (tick s).tlb = s.tlb := rfl
@[simp] theorem tick_mem (s : State) : (tick s).mem = s.mem := rfl
@[simp] theorem tick_stale (s : State) : (tick s).stale = s.stale := rfl
@[simp] theorem tick_io (s : State) : (tick s).io = s.io := rfl
@[simp] theorem tick_draws (s : State) : (tick s).draws = s.draws := rfl
@[simp] theorem tick_inputs (s : State) : (tick s).inputs = s.inputs := rfl
@[simp] theorem gprGet_tick (q : Reg) (s : State) : gprGet q (tick s) = gprGet q s := rfl
@[simp] theorem fprGet_tick (q : FReg) (s : State) : fprGet q (tick s) = fprGet q s := rfl
@[simp] theorem fprGetW_tick (q : FReg) (s : State) : fprGetW q (tick s) = fprGetW q s := rfl
@[simp] theorem cfGet_tick (q : CFlag) (s : State) : cfGet q (tick s) = cfGet q s := rfl

/-! sampleLines -/
@[simp] theorem sampleLines_cfg (hwi : BitVec 8) (ipi : Bool) (s : State) : (sampleLines hwi ipi s).cfg = s.cfg := rfl
@[simp] theorem sampleLines_gpr (hwi : BitVec 8) (ipi : Bool) (s : State) : (sampleLines hwi ipi s).gpr = s.gpr := rfl
@[simp] theorem sampleLines_pc (hwi : BitVec 8) (ipi : Bool) (s : State) : (sampleLines hwi ipi s).pc = s.pc := rfl
@[simp] theorem sampleLines_fpr (hwi : BitVec 8) (ipi : Bool) (s : State) : (sampleLines hwi ipi s).fpr = s.fpr := rfl
@[simp] theorem sampleLines_cf (hwi : BitVec 8) (ipi : Bool) (s : State) : (sampleLines hwi ipi s).cf = s.cf := rfl
@[simp] theorem sampleLines_fcsr0 (hwi : BitVec 8) (ipi : Bool) (s : State) : (sampleLines hwi ipi s).fcsr0 = s.fcsr0 := rfl
@[simp] theorem sampleLines_llbit (hwi : BitVec 8) (ipi : Bool) (s : State) : (sampleLines hwi ipi s).llbit = s.llbit := rfl
@[simp] theorem sampleLines_lladdr (hwi : BitVec 8) (ipi : Bool) (s : State) : (sampleLines hwi ipi s).lladdr = s.lladdr := rfl
@[simp] theorem sampleLines_counter (hwi : BitVec 8) (ipi : Bool) (s : State) : (sampleLines hwi ipi s).counter = s.counter := rfl
@[simp] theorem sampleLines_timerVal (hwi : BitVec 8) (ipi : Bool) (s : State) : (sampleLines hwi ipi s).timerVal = s.timerVal := rfl
@[simp] theorem sampleLines_timerRun (hwi : BitVec 8) (ipi : Bool) (s : State) : (sampleLines hwi ipi s).timerRun = s.timerRun := rfl
@[simp] theorem sampleLines_waiting (hwi : BitVec 8) (ipi : Bool) (s : State) : (sampleLines hwi ipi s).waiting = s.waiting := rfl
@[simp] theorem sampleLines_tlb (hwi : BitVec 8) (ipi : Bool) (s : State) : (sampleLines hwi ipi s).tlb = s.tlb := rfl
@[simp] theorem sampleLines_mem (hwi : BitVec 8) (ipi : Bool) (s : State) : (sampleLines hwi ipi s).mem = s.mem := rfl
@[simp] theorem sampleLines_stale (hwi : BitVec 8) (ipi : Bool) (s : State) : (sampleLines hwi ipi s).stale = s.stale := rfl
@[simp] theorem sampleLines_io (hwi : BitVec 8) (ipi : Bool) (s : State) : (sampleLines hwi ipi s).io = s.io := rfl
@[simp] theorem sampleLines_draws (hwi : BitVec 8) (ipi : Bool) (s : State) : (sampleLines hwi ipi s).draws = s.draws := rfl
@[simp] theorem sampleLines_inputs (hwi : BitVec 8) (ipi : Bool) (s : State) : (sampleLines hwi ipi s).inputs = s.inputs := rfl
@[simp] theorem gprGet_sampleLines (q : Reg) (hwi : BitVec 8) (ipi : Bool) (s : State) : gprGet q (sampleLines hwi ipi s) = gprGet q s := rfl
@[simp] theorem fprGet_sampleLines (q : FReg) (hwi : BitVec 8) (ipi : Bool) (s : State) : fprGet q (sampleLines hwi ipi s) = fprGet q s := rfl
@[simp] theorem fprGetW_sampleLines (q : FReg) (hwi : BitVec 8) (ipi : Bool) (s : State) : fprGetW q (sampleLines hwi ipi s) = fprGetW q s := rfl
@[simp] theorem cfGet_sampleLines (q : CFlag) (hwi : BitVec 8) (ipi : Bool) (s : State) : cfGet q (sampleLines hwi ipi s) = cfGet q s := rfl

/-! agentStore -/
@[simp] theorem agentStore_cfg (c : AgentStore) (s : State) : (agentStore c s).cfg = s.cfg := rfl
@[simp] theorem agentStore_gpr (c : AgentStore) (s : State) : (agentStore c s).gpr = s.gpr := rfl
@[simp] theorem agentStore_pc (c : AgentStore) (s : State) : (agentStore c s).pc = s.pc := rfl
@[simp] theorem agentStore_fpr (c : AgentStore) (s : State) : (agentStore c s).fpr = s.fpr := rfl
@[simp] theorem agentStore_cf (c : AgentStore) (s : State) : (agentStore c s).cf = s.cf := rfl
@[simp] theorem agentStore_fcsr0 (c : AgentStore) (s : State) : (agentStore c s).fcsr0 = s.fcsr0 := rfl
@[simp] theorem agentStore_csr (c : AgentStore) (s : State) : (agentStore c s).csr = s.csr := rfl
@[simp] theorem agentStore_llbit (c : AgentStore) (s : State) : (agentStore c s).llbit = (s.llbit && c.pa / 4 != s.lladdr / 4) := rfl
@[simp] theorem agentStore_lladdr (c : AgentStore) (s : State) : (agentStore c s).lladdr = s.lladdr := rfl
@[simp] theorem agentStore_counter (c : AgentStore) (s : State) : (agentStore c s).counter = s.counter := rfl
@[simp] theorem agentStore_timerVal (c : AgentStore) (s : State) : (agentStore c s).timerVal = s.timerVal := rfl
@[simp] theorem agentStore_timerRun (c : AgentStore) (s : State) : (agentStore c s).timerRun = s.timerRun := rfl
@[simp] theorem agentStore_waiting (c : AgentStore) (s : State) : (agentStore c s).waiting = s.waiting := rfl
@[simp] theorem agentStore_tlb (c : AgentStore) (s : State) : (agentStore c s).tlb = s.tlb := rfl
@[simp] theorem agentStore_mem (c : AgentStore) (s : State) : (agentStore c s).mem = if regionKind c.pa s = .ram then s.mem.write c.pa (c.value.setWidth 64) c.size.bytes else s.mem := rfl
@[simp] theorem agentStore_stale (c : AgentStore) (s : State) : (agentStore c s).stale = if regionKind c.pa s = .ram then staleWords s.mem c.pa c.size.bytes .invalidated ++ settleWord (c.pa / 4 * 4) s.stale else s.stale := rfl
@[simp] theorem agentStore_io (c : AgentStore) (s : State) : (agentStore c s).io = s.io := rfl
@[simp] theorem agentStore_draws (c : AgentStore) (s : State) : (agentStore c s).draws = s.draws := rfl
@[simp] theorem agentStore_inputs (c : AgentStore) (s : State) : (agentStore c s).inputs = s.inputs := rfl
@[simp] theorem gprGet_agentStore (q : Reg) (c : AgentStore) (s : State) : gprGet q (agentStore c s) = gprGet q s := rfl
@[simp] theorem fprGet_agentStore (q : FReg) (c : AgentStore) (s : State) : fprGet q (agentStore c s) = fprGet q s := rfl
@[simp] theorem fprGetW_agentStore (q : FReg) (c : AgentStore) (s : State) : fprGetW q (agentStore c s) = fprGetW q s := rfl
@[simp] theorem cfGet_agentStore (q : CFlag) (c : AgentStore) (s : State) : cfGet q (agentStore c s) = cfGet q s := rfl

/-! maintain -/
@[simp] theorem maintain_cfg (code : BitVec 5) (pa : Nat) (s : State) : (maintain code pa s).cfg = s.cfg := rfl
@[simp] theorem maintain_gpr (code : BitVec 5) (pa : Nat) (s : State) : (maintain code pa s).gpr = s.gpr := rfl
@[simp] theorem maintain_pc (code : BitVec 5) (pa : Nat) (s : State) : (maintain code pa s).pc = s.pc := rfl
@[simp] theorem maintain_fpr (code : BitVec 5) (pa : Nat) (s : State) : (maintain code pa s).fpr = s.fpr := rfl
@[simp] theorem maintain_cf (code : BitVec 5) (pa : Nat) (s : State) : (maintain code pa s).cf = s.cf := rfl
@[simp] theorem maintain_fcsr0 (code : BitVec 5) (pa : Nat) (s : State) : (maintain code pa s).fcsr0 = s.fcsr0 := rfl
@[simp] theorem maintain_csr (code : BitVec 5) (pa : Nat) (s : State) : (maintain code pa s).csr = s.csr := rfl
@[simp] theorem maintain_llbit (code : BitVec 5) (pa : Nat) (s : State) : (maintain code pa s).llbit = s.llbit := rfl
@[simp] theorem maintain_lladdr (code : BitVec 5) (pa : Nat) (s : State) : (maintain code pa s).lladdr = s.lladdr := rfl
@[simp] theorem maintain_counter (code : BitVec 5) (pa : Nat) (s : State) : (maintain code pa s).counter = s.counter := rfl
@[simp] theorem maintain_timerVal (code : BitVec 5) (pa : Nat) (s : State) : (maintain code pa s).timerVal = s.timerVal := rfl
@[simp] theorem maintain_timerRun (code : BitVec 5) (pa : Nat) (s : State) : (maintain code pa s).timerRun = s.timerRun := rfl
@[simp] theorem maintain_waiting (code : BitVec 5) (pa : Nat) (s : State) : (maintain code pa s).waiting = s.waiting := rfl
@[simp] theorem maintain_tlb (code : BitVec 5) (pa : Nat) (s : State) : (maintain code pa s).tlb = s.tlb := rfl
@[simp] theorem maintain_mem (code : BitVec 5) (pa : Nat) (s : State) : (maintain code pa s).mem = s.mem := rfl
@[simp] theorem maintain_io (code : BitVec 5) (pa : Nat) (s : State) : (maintain code pa s).io = s.io := rfl
@[simp] theorem maintain_draws (code : BitVec 5) (pa : Nat) (s : State) : (maintain code pa s).draws = s.draws := rfl
@[simp] theorem maintain_inputs (code : BitVec 5) (pa : Nat) (s : State) : (maintain code pa s).inputs = s.inputs := rfl
@[simp] theorem gprGet_maintain (q : Reg) (code : BitVec 5) (pa : Nat) (s : State) : gprGet q (maintain code pa s) = gprGet q s := rfl
@[simp] theorem fprGet_maintain (q : FReg) (code : BitVec 5) (pa : Nat) (s : State) : fprGet q (maintain code pa s) = fprGet q s := rfl
@[simp] theorem fprGetW_maintain (q : FReg) (code : BitVec 5) (pa : Nat) (s : State) : fprGetW q (maintain code pa s) = fprGetW q s := rfl
@[simp] theorem cfGet_maintain (q : CFlag) (code : BitVec 5) (pa : Nat) (s : State) : cfGet q (maintain code pa s) = cfGet q s := rfl

/-! enter: control and status registers -/
@[simp] theorem enter_csr_crmd (x : Exc) (va : Word) (s : State) : (enter x va s).csr.crmd = entryMode x s.csr.crmd := rfl
@[simp] theorem enter_csr_prmd (x : Exc) (va : Word) (s : State) : (enter x va s).csr.prmd = setBits s.csr.prmd 0x07 s.csr.crmd := rfl
@[simp] theorem enter_csr_euen (x : Exc) (va : Word) (s : State) : (enter x va s).csr.euen = s.csr.euen := rfl
@[simp] theorem enter_csr_ecfg (x : Exc) (va : Word) (s : State) : (enter x va s).csr.ecfg = s.csr.ecfg := rfl
@[simp] theorem enter_csr_estat (x : Exc) (va : Word) (s : State) : (enter x va s).csr.estat = entryStatus x s.csr.estat := rfl
@[simp] theorem enter_csr_era (x : Exc) (va : Word) (s : State) : (enter x va s).csr.era = s.pc := rfl
@[simp] theorem enter_csr_badv (x : Exc) (va : Word) (s : State) : (enter x va s).csr.badv = if x.recordsBadv then va else s.csr.badv := rfl
@[simp] theorem enter_csr_eentry (x : Exc) (va : Word) (s : State) : (enter x va s).csr.eentry = s.csr.eentry := rfl
@[simp] theorem enter_csr_tlbidx (x : Exc) (va : Word) (s : State) : (enter x va s).csr.tlbidx = s.csr.tlbidx := rfl
@[simp] theorem enter_csr_tlbehi (x : Exc) (va : Word) (s : State) : (enter x va s).csr.tlbehi = if x.recordsVppn then setBits s.csr.tlbehi 0xFFFFE000 va else s.csr.tlbehi := rfl
@[simp] theorem enter_csr_tlbelo0 (x : Exc) (va : Word) (s : State) : (enter x va s).csr.tlbelo0 = s.csr.tlbelo0 := rfl
@[simp] theorem enter_csr_tlbelo1 (x : Exc) (va : Word) (s : State) : (enter x va s).csr.tlbelo1 = s.csr.tlbelo1 := rfl
@[simp] theorem enter_csr_asid (x : Exc) (va : Word) (s : State) : (enter x va s).csr.asid = s.csr.asid := rfl
@[simp] theorem enter_csr_pgdl (x : Exc) (va : Word) (s : State) : (enter x va s).csr.pgdl = s.csr.pgdl := rfl
@[simp] theorem enter_csr_pgdh (x : Exc) (va : Word) (s : State) : (enter x va s).csr.pgdh = s.csr.pgdh := rfl
@[simp] theorem enter_csr_save0 (x : Exc) (va : Word) (s : State) : (enter x va s).csr.save0 = s.csr.save0 := rfl
@[simp] theorem enter_csr_save1 (x : Exc) (va : Word) (s : State) : (enter x va s).csr.save1 = s.csr.save1 := rfl
@[simp] theorem enter_csr_save2 (x : Exc) (va : Word) (s : State) : (enter x va s).csr.save2 = s.csr.save2 := rfl
@[simp] theorem enter_csr_save3 (x : Exc) (va : Word) (s : State) : (enter x va s).csr.save3 = s.csr.save3 := rfl
@[simp] theorem enter_csr_tid (x : Exc) (va : Word) (s : State) : (enter x va s).csr.tid = s.csr.tid := rfl
@[simp] theorem enter_csr_tcfg (x : Exc) (va : Word) (s : State) : (enter x va s).csr.tcfg = s.csr.tcfg := rfl
@[simp] theorem enter_csr_llbctl (x : Exc) (va : Word) (s : State) : (enter x va s).csr.llbctl = s.csr.llbctl := rfl
@[simp] theorem enter_csr_tlbrentry (x : Exc) (va : Word) (s : State) : (enter x va s).csr.tlbrentry = s.csr.tlbrentry := rfl
@[simp] theorem enter_csr_dmw0 (x : Exc) (va : Word) (s : State) : (enter x va s).csr.dmw0 = s.csr.dmw0 := rfl
@[simp] theorem enter_csr_dmw1 (x : Exc) (va : Word) (s : State) : (enter x va s).csr.dmw1 = s.csr.dmw1 := rfl

/-! exceptionReturn: control and status registers -/
@[simp] theorem exceptionReturn_csr_crmd (s : State) : (exceptionReturn s).csr.crmd = returnMode s := rfl
@[simp] theorem exceptionReturn_csr_prmd (s : State) : (exceptionReturn s).csr.prmd = s.csr.prmd := rfl
@[simp] theorem exceptionReturn_csr_euen (s : State) : (exceptionReturn s).csr.euen = s.csr.euen := rfl
@[simp] theorem exceptionReturn_csr_ecfg (s : State) : (exceptionReturn s).csr.ecfg = s.csr.ecfg := rfl
@[simp] theorem exceptionReturn_csr_estat (s : State) : (exceptionReturn s).csr.estat = s.csr.estat := rfl
@[simp] theorem exceptionReturn_csr_era (s : State) : (exceptionReturn s).csr.era = s.csr.era := rfl
@[simp] theorem exceptionReturn_csr_badv (s : State) : (exceptionReturn s).csr.badv = s.csr.badv := rfl
@[simp] theorem exceptionReturn_csr_eentry (s : State) : (exceptionReturn s).csr.eentry = s.csr.eentry := rfl
@[simp] theorem exceptionReturn_csr_tlbidx (s : State) : (exceptionReturn s).csr.tlbidx = s.csr.tlbidx := rfl
@[simp] theorem exceptionReturn_csr_tlbehi (s : State) : (exceptionReturn s).csr.tlbehi = s.csr.tlbehi := rfl
@[simp] theorem exceptionReturn_csr_tlbelo0 (s : State) : (exceptionReturn s).csr.tlbelo0 = s.csr.tlbelo0 := rfl
@[simp] theorem exceptionReturn_csr_tlbelo1 (s : State) : (exceptionReturn s).csr.tlbelo1 = s.csr.tlbelo1 := rfl
@[simp] theorem exceptionReturn_csr_asid (s : State) : (exceptionReturn s).csr.asid = s.csr.asid := rfl
@[simp] theorem exceptionReturn_csr_pgdl (s : State) : (exceptionReturn s).csr.pgdl = s.csr.pgdl := rfl
@[simp] theorem exceptionReturn_csr_pgdh (s : State) : (exceptionReturn s).csr.pgdh = s.csr.pgdh := rfl
@[simp] theorem exceptionReturn_csr_save0 (s : State) : (exceptionReturn s).csr.save0 = s.csr.save0 := rfl
@[simp] theorem exceptionReturn_csr_save1 (s : State) : (exceptionReturn s).csr.save1 = s.csr.save1 := rfl
@[simp] theorem exceptionReturn_csr_save2 (s : State) : (exceptionReturn s).csr.save2 = s.csr.save2 := rfl
@[simp] theorem exceptionReturn_csr_save3 (s : State) : (exceptionReturn s).csr.save3 = s.csr.save3 := rfl
@[simp] theorem exceptionReturn_csr_tid (s : State) : (exceptionReturn s).csr.tid = s.csr.tid := rfl
@[simp] theorem exceptionReturn_csr_tcfg (s : State) : (exceptionReturn s).csr.tcfg = s.csr.tcfg := rfl
@[simp] theorem exceptionReturn_csr_llbctl (s : State) : (exceptionReturn s).csr.llbctl = setBits s.csr.llbctl 0x04 0 := rfl
@[simp] theorem exceptionReturn_csr_tlbrentry (s : State) : (exceptionReturn s).csr.tlbrentry = s.csr.tlbrentry := rfl
@[simp] theorem exceptionReturn_csr_dmw0 (s : State) : (exceptionReturn s).csr.dmw0 = s.csr.dmw0 := rfl
@[simp] theorem exceptionReturn_csr_dmw1 (s : State) : (exceptionReturn s).csr.dmw1 = s.csr.dmw1 := rfl

/-! timerTick: control and status registers -/
@[simp] theorem timerTick_csr_crmd (s : State) : (timerTick s).csr.crmd = s.csr.crmd := rfl
@[simp] theorem timerTick_csr_prmd (s : State) : (timerTick s).csr.prmd = s.csr.prmd := rfl
@[simp] theorem timerTick_csr_euen (s : State) : (timerTick s).csr.euen = s.csr.euen := rfl
@[simp] theorem timerTick_csr_ecfg (s : State) : (timerTick s).csr.ecfg = s.csr.ecfg := rfl
@[simp] theorem timerTick_csr_estat (s : State) : (timerTick s).csr.estat = if timerExpires s then setBits s.csr.estat 0x800 0x800 else s.csr.estat := rfl
@[simp] theorem timerTick_csr_era (s : State) : (timerTick s).csr.era = s.csr.era := rfl
@[simp] theorem timerTick_csr_badv (s : State) : (timerTick s).csr.badv = s.csr.badv := rfl
@[simp] theorem timerTick_csr_eentry (s : State) : (timerTick s).csr.eentry = s.csr.eentry := rfl
@[simp] theorem timerTick_csr_tlbidx (s : State) : (timerTick s).csr.tlbidx = s.csr.tlbidx := rfl
@[simp] theorem timerTick_csr_tlbehi (s : State) : (timerTick s).csr.tlbehi = s.csr.tlbehi := rfl
@[simp] theorem timerTick_csr_tlbelo0 (s : State) : (timerTick s).csr.tlbelo0 = s.csr.tlbelo0 := rfl
@[simp] theorem timerTick_csr_tlbelo1 (s : State) : (timerTick s).csr.tlbelo1 = s.csr.tlbelo1 := rfl
@[simp] theorem timerTick_csr_asid (s : State) : (timerTick s).csr.asid = s.csr.asid := rfl
@[simp] theorem timerTick_csr_pgdl (s : State) : (timerTick s).csr.pgdl = s.csr.pgdl := rfl
@[simp] theorem timerTick_csr_pgdh (s : State) : (timerTick s).csr.pgdh = s.csr.pgdh := rfl
@[simp] theorem timerTick_csr_save0 (s : State) : (timerTick s).csr.save0 = s.csr.save0 := rfl
@[simp] theorem timerTick_csr_save1 (s : State) : (timerTick s).csr.save1 = s.csr.save1 := rfl
@[simp] theorem timerTick_csr_save2 (s : State) : (timerTick s).csr.save2 = s.csr.save2 := rfl
@[simp] theorem timerTick_csr_save3 (s : State) : (timerTick s).csr.save3 = s.csr.save3 := rfl
@[simp] theorem timerTick_csr_tid (s : State) : (timerTick s).csr.tid = s.csr.tid := rfl
@[simp] theorem timerTick_csr_tcfg (s : State) : (timerTick s).csr.tcfg = s.csr.tcfg := rfl
@[simp] theorem timerTick_csr_llbctl (s : State) : (timerTick s).csr.llbctl = s.csr.llbctl := rfl
@[simp] theorem timerTick_csr_tlbrentry (s : State) : (timerTick s).csr.tlbrentry = s.csr.tlbrentry := rfl
@[simp] theorem timerTick_csr_dmw0 (s : State) : (timerTick s).csr.dmw0 = s.csr.dmw0 := rfl
@[simp] theorem timerTick_csr_dmw1 (s : State) : (timerTick s).csr.dmw1 = s.csr.dmw1 := rfl

/-! tick: control and status registers -/
@[simp] theorem tick_csr_crmd (s : State) : (tick s).csr.crmd = s.csr.crmd := rfl
@[simp] theorem tick_csr_prmd (s : State) : (tick s).csr.prmd = s.csr.prmd := rfl
@[simp] theorem tick_csr_euen (s : State) : (tick s).csr.euen = s.csr.euen := rfl
@[simp] theorem tick_csr_ecfg (s : State) : (tick s).csr.ecfg = s.csr.ecfg := rfl
@[simp] theorem tick_csr_era (s : State) : (tick s).csr.era = s.csr.era := rfl
@[simp] theorem tick_csr_badv (s : State) : (tick s).csr.badv = s.csr.badv := rfl
@[simp] theorem tick_csr_eentry (s : State) : (tick s).csr.eentry = s.csr.eentry := rfl
@[simp] theorem tick_csr_tlbidx (s : State) : (tick s).csr.tlbidx = s.csr.tlbidx := rfl
@[simp] theorem tick_csr_tlbehi (s : State) : (tick s).csr.tlbehi = s.csr.tlbehi := rfl
@[simp] theorem tick_csr_tlbelo0 (s : State) : (tick s).csr.tlbelo0 = s.csr.tlbelo0 := rfl
@[simp] theorem tick_csr_tlbelo1 (s : State) : (tick s).csr.tlbelo1 = s.csr.tlbelo1 := rfl
@[simp] theorem tick_csr_asid (s : State) : (tick s).csr.asid = s.csr.asid := rfl
@[simp] theorem tick_csr_pgdl (s : State) : (tick s).csr.pgdl = s.csr.pgdl := rfl
@[simp] theorem tick_csr_pgdh (s : State) : (tick s).csr.pgdh = s.csr.pgdh := rfl
@[simp] theorem tick_csr_save0 (s : State) : (tick s).csr.save0 = s.csr.save0 := rfl
@[simp] theorem tick_csr_save1 (s : State) : (tick s).csr.save1 = s.csr.save1 := rfl
@[simp] theorem tick_csr_save2 (s : State) : (tick s).csr.save2 = s.csr.save2 := rfl
@[simp] theorem tick_csr_save3 (s : State) : (tick s).csr.save3 = s.csr.save3 := rfl
@[simp] theorem tick_csr_tid (s : State) : (tick s).csr.tid = s.csr.tid := rfl
@[simp] theorem tick_csr_tcfg (s : State) : (tick s).csr.tcfg = s.csr.tcfg := rfl
@[simp] theorem tick_csr_llbctl (s : State) : (tick s).csr.llbctl = s.csr.llbctl := rfl
@[simp] theorem tick_csr_tlbrentry (s : State) : (tick s).csr.tlbrentry = s.csr.tlbrentry := rfl
@[simp] theorem tick_csr_dmw0 (s : State) : (tick s).csr.dmw0 = s.csr.dmw0 := rfl
@[simp] theorem tick_csr_dmw1 (s : State) : (tick s).csr.dmw1 = s.csr.dmw1 := rfl

/-! sampleLines: control and status registers -/
@[simp] theorem sampleLines_csr_crmd (hwi : BitVec 8) (ipi : Bool) (s : State) : (sampleLines hwi ipi s).csr.crmd = s.csr.crmd := rfl
@[simp] theorem sampleLines_csr_prmd (hwi : BitVec 8) (ipi : Bool) (s : State) : (sampleLines hwi ipi s).csr.prmd = s.csr.prmd := rfl
@[simp] theorem sampleLines_csr_euen (hwi : BitVec 8) (ipi : Bool) (s : State) : (sampleLines hwi ipi s).csr.euen = s.csr.euen := rfl
@[simp] theorem sampleLines_csr_ecfg (hwi : BitVec 8) (ipi : Bool) (s : State) : (sampleLines hwi ipi s).csr.ecfg = s.csr.ecfg := rfl
@[simp] theorem sampleLines_csr_estat (hwi : BitVec 8) (ipi : Bool) (s : State) : (sampleLines hwi ipi s).csr.estat = setBits s.csr.estat 0x13FC ((hwi.setWidth 32 <<< 2) ||| ((BitVec.ofBool ipi).setWidth 32 <<< 12)) := rfl
@[simp] theorem sampleLines_csr_era (hwi : BitVec 8) (ipi : Bool) (s : State) : (sampleLines hwi ipi s).csr.era = s.csr.era := rfl
@[simp] theorem sampleLines_csr_badv (hwi : BitVec 8) (ipi : Bool) (s : State) : (sampleLines hwi ipi s).csr.badv = s.csr.badv := rfl
@[simp] theorem sampleLines_csr_eentry (hwi : BitVec 8) (ipi : Bool) (s : State) : (sampleLines hwi ipi s).csr.eentry = s.csr.eentry := rfl
@[simp] theorem sampleLines_csr_tlbidx (hwi : BitVec 8) (ipi : Bool) (s : State) : (sampleLines hwi ipi s).csr.tlbidx = s.csr.tlbidx := rfl
@[simp] theorem sampleLines_csr_tlbehi (hwi : BitVec 8) (ipi : Bool) (s : State) : (sampleLines hwi ipi s).csr.tlbehi = s.csr.tlbehi := rfl
@[simp] theorem sampleLines_csr_tlbelo0 (hwi : BitVec 8) (ipi : Bool) (s : State) : (sampleLines hwi ipi s).csr.tlbelo0 = s.csr.tlbelo0 := rfl
@[simp] theorem sampleLines_csr_tlbelo1 (hwi : BitVec 8) (ipi : Bool) (s : State) : (sampleLines hwi ipi s).csr.tlbelo1 = s.csr.tlbelo1 := rfl
@[simp] theorem sampleLines_csr_asid (hwi : BitVec 8) (ipi : Bool) (s : State) : (sampleLines hwi ipi s).csr.asid = s.csr.asid := rfl
@[simp] theorem sampleLines_csr_pgdl (hwi : BitVec 8) (ipi : Bool) (s : State) : (sampleLines hwi ipi s).csr.pgdl = s.csr.pgdl := rfl
@[simp] theorem sampleLines_csr_pgdh (hwi : BitVec 8) (ipi : Bool) (s : State) : (sampleLines hwi ipi s).csr.pgdh = s.csr.pgdh := rfl
@[simp] theorem sampleLines_csr_save0 (hwi : BitVec 8) (ipi : Bool) (s : State) : (sampleLines hwi ipi s).csr.save0 = s.csr.save0 := rfl
@[simp] theorem sampleLines_csr_save1 (hwi : BitVec 8) (ipi : Bool) (s : State) : (sampleLines hwi ipi s).csr.save1 = s.csr.save1 := rfl
@[simp] theorem sampleLines_csr_save2 (hwi : BitVec 8) (ipi : Bool) (s : State) : (sampleLines hwi ipi s).csr.save2 = s.csr.save2 := rfl
@[simp] theorem sampleLines_csr_save3 (hwi : BitVec 8) (ipi : Bool) (s : State) : (sampleLines hwi ipi s).csr.save3 = s.csr.save3 := rfl
@[simp] theorem sampleLines_csr_tid (hwi : BitVec 8) (ipi : Bool) (s : State) : (sampleLines hwi ipi s).csr.tid = s.csr.tid := rfl
@[simp] theorem sampleLines_csr_tcfg (hwi : BitVec 8) (ipi : Bool) (s : State) : (sampleLines hwi ipi s).csr.tcfg = s.csr.tcfg := rfl
@[simp] theorem sampleLines_csr_llbctl (hwi : BitVec 8) (ipi : Bool) (s : State) : (sampleLines hwi ipi s).csr.llbctl = s.csr.llbctl := rfl
@[simp] theorem sampleLines_csr_tlbrentry (hwi : BitVec 8) (ipi : Bool) (s : State) : (sampleLines hwi ipi s).csr.tlbrentry = s.csr.tlbrentry := rfl
@[simp] theorem sampleLines_csr_dmw0 (hwi : BitVec 8) (ipi : Bool) (s : State) : (sampleLines hwi ipi s).csr.dmw0 = s.csr.dmw0 := rfl
@[simp] theorem sampleLines_csr_dmw1 (hwi : BitVec 8) (ipi : Bool) (s : State) : (sampleLines hwi ipi s).csr.dmw1 = s.csr.dmw1 := rfl

/-! Registers read after a write. -/

@[simp] theorem gprGet_zero (s : State) : gprGet 0 s = 0 := rfl

/-- Everything a register read sees after a register write. -/
theorem gprGet_gprSet (q r : Reg) (v : Word) (s : State) :
    gprGet q (gprSet r v s) = if q = r ∧ r ≠ 0#5 then v else gprGet q s := by
  unfold gprGet gprSet
  by_cases hq : q = 0#5
  · by_cases hr : r = 0#5 <;> simp [hq, hr, eq_comm]
  · by_cases hr : r = 0#5
    · simp [hq, hr]
    · by_cases h : q = r
      · subst h; simp [hq]
      · have hn : r.toNat ≠ q.toNat := fun e => h (BitVec.eq_of_toNat_eq e).symm
        simp [hq, hr, h, hn]

theorem gprGet_gprSet_self (r : Reg) (v : Word) (s : State) (h : r ≠ 0#5) : gprGet r (gprSet r v s) = v := by
  rw [gprGet_gprSet, if_pos ⟨rfl, h⟩]

@[simp] theorem gprSet_zero (v : Word) (s : State) : gprSet 0 v s = s := rfl

theorem fprGet_fprSet (q r : FReg) (v : DWord) (s : State) :
    fprGet q (fprSet r v s) = if q = r then v else fprGet q s := by
  unfold fprGet
  by_cases h : q = r
  · subst h; simp
  · have hn : r.toNat ≠ q.toNat := fun e => h (BitVec.eq_of_toNat_eq e).symm
    simp [h, hn]

theorem cfGet_cfSet (q c : CFlag) (b : Bool) (s : State) :
    cfGet q (cfSet c b s) = if q = c then b else cfGet q s := by
  unfold cfGet
  by_cases h : q = c
  · subst h; simp
  · have hn : c.toNat ≠ q.toNat := fun e => h (BitVec.eq_of_toNat_eq e).symm
    simp [h, hn]

/-- The single or word written is read back; what bits 63:32 hold is not said. -/
theorem fprGetW_fprSetW_self (r : FReg) (v : Word) (s : State) : fprGetW r (fprSetW r v s) = v := by
  unfold fprGetW fprSetW
  rw [fprGet_fprSet, if_pos rfl]
  ext i hi
  have h := BitVec.getLsbD_append (x := Config.freeUpper s.draws) (y := v) (i := i)
  simp only [hi, if_true] at h
  simpa [hi, ← BitVec.getLsbD_eq_getElem] using h

theorem fprGet_fprSetW_ne (q r : FReg) (v : Word) (s : State) (h : q ≠ r) :
    fprGet q (fprSetW r v s) = fprGet q s := by
  unfold fprSetW
  rw [fprGet_fprSet, if_neg h]

end Sys2Proof.Machine
end

