-- ==== Sys2Proof/Laws/Operations.lean ====
section
/-! SUPPORT. What each shared operation can do, said once: the proofs about instructions cite these and unfold nothing. -/

namespace Sys2Proof.Machine

/-! Accesses. -/

@[simp] theorem finish_ok {α : Type} (a : α) (s : State) (k : α → Result) : (Access.ok a).finish s k = k a := rfl
@[simp] theorem finish_raise {α : Type} (x : Exc) (va : Word) (s : State) (k : α → Result) :
    (Access.raise x va : Access α).finish s k = .next (enter x va s) := rfl
@[simp] theorem finish_refuse {α : Type} (r : Refusal) (s : State) (k : α → Result) :
    (Access.refuse r : Access α).finish s k = .refused r := rfl
@[simp] theorem bind_ok {α β : Type} (a : α) (k : α → Access β) : (Access.ok a).bind k = k a := rfl
@[simp] theorem bind_raise {α β : Type} (x : Exc) (va : Word) (k : α → Access β) :
    (Access.raise x va).bind k = .raise x va := rfl
@[simp] theorem bind_refuse {α β : Type} (r : Refusal) (k : α → Access β) : (Access.refuse r).bind k = .refuse r := rfl

/-- An access that leads to a next state either succeeded or took its exception. -/
theorem finish_next {α : Type} {c : Access α} {s t : State} {k : α → Result} (h : c.finish s k = .next t) :
    (∃ a, c = .ok a ∧ k a = .next t) ∨ ∃ x va, c = .raise x va ∧ t = enter x va s := by
  cases c with
  | ok a => exact .inl ⟨a, rfl, h⟩
  | raise x va => exact .inr ⟨x, va, rfl, by simpa using h.symm⟩
  | refuse r => simp at h

/-- A sequence of accesses succeeds when both do. -/
theorem bind_eq_ok {α β : Type} {c : Access α} {k : α → Access β} {b : β} :
    c.bind k = .ok b ↔ ∃ a, c = .ok a ∧ k a = .ok b := by
  cases c <;> simp

/-- A sequence of accesses raises what its first part to raise raises. -/
theorem bind_eq_raise {α β : Type} {c : Access α} {k : α → Access β} {x : Exc} {va : Word} :
    c.bind k = .raise x va ↔ c = .raise x va ∨ ∃ a, c = .ok a ∧ k a = .raise x va := by
  cases c <;> simp

/-- Types 0 and 1 pass, 2 and 3 are refused. -/
theorem typed_eq (t : Target) :
    typed t = .ok t ∧ t.mat.toNat < 2 ∨ typed t = .refuse .reservedAccessType ∧ 2 ≤ t.mat.toNat := by
  unfold typed
  split
  · exact .inl ⟨rfl, ‹_›⟩
  · exact .inr ⟨rfl, by omega⟩

theorem typed_eq_ok {t u : Target} : typed t = .ok u ↔ u = t ∧ t.mat.toNat < 2 := by
  unfold typed
  split
  · simp only [Access.ok.injEq]
    exact ⟨fun h => ⟨h.symm, ‹_›⟩, fun h => h.1.symm⟩
  · simp only [reduceCtorEq, false_iff, not_and]
    exact fun _ => ‹_›

theorem placed_eq_ok {t : Target} {s : State} {p : Place} :
    placed t s = .ok p ↔ p = ⟨t, regionKind t.pa s⟩ ∧ regionKind t.pa s ≠ .nothing := by
  unfold placed
  split <;> simp_all [eq_comm]

/-- When an access has its target: aligned, translated, of a defined type. -/
theorem resolve_eq_ok {k : AccessKind} {n : Nat} {va : Word} {s : State} {t : Target} :
    resolve k n va s = .ok t ↔ va.toNat % n = 0 ∧ translate k va s = .ok t ∧ t.mat.toNat < 2 := by
  unfold resolve
  split
  · simp_all
  · simp only [bind_eq_ok, typed_eq_ok]
    constructor
    · rintro ⟨u, hu, rfl, hm⟩
      exact ⟨by omega, hu, hm⟩
    · rintro ⟨_, ht, hm⟩
      exact ⟨t, ht, rfl, hm⟩

/-- When an access reaches a place: aligned, translated, of a defined type, with something there. -/
theorem locate_eq_ok {k : AccessKind} {n : Nat} {va : Word} {s : State} {p : Place} :
    locate k n va s = .ok p ↔
      va.toNat % n = 0 ∧ ∃ t, translate k va s = .ok t ∧ t.mat.toNat < 2 ∧ regionKind t.pa s ≠ .nothing ∧
        p = ⟨t, regionKind t.pa s⟩ := by
  unfold locate
  simp only [bind_eq_ok, resolve_eq_ok, placed_eq_ok]
  constructor
  · rintro ⟨t, ⟨ha, ht, hm⟩, rfl, hk⟩
    exact ⟨ha, t, ht, hm, hk, rfl⟩
  · rintro ⟨ha, t, ht, hm, hk, rfl⟩
    exact ⟨t, ⟨ha, ht, hm⟩, rfl, hk⟩

/-- A misaligned access raises ALE whatever its translation is. -/
theorem locate_misaligned {k : AccessKind} {n : Nat} {va : Word} {s : State} (h : va.toNat % n ≠ 0) :
    locate k n va s = .raise .ALE va := by
  unfold locate resolve
  rw [if_pos h, bind_raise]

/-- An aligned access raises what its translation raises. -/
theorem locate_translation_raise {k : AccessKind} {n : Nat} {va w : Word} {s : State} {x : Exc}
    (h : va.toNat % n = 0) (ht : translate k va s = .raise x w) : locate k n va s = .raise x w := by
  unfold locate resolve
  rw [if_neg (by omega), ht]
  rfl

/-- When LL.W and SC.W have their target: as a word access, coherent cached. -/
theorem resolveReserved_eq_ok {k : AccessKind} {va : Word} {s : State} {t : Target} :
    resolveReserved k va s = .ok t ↔ va.toNat % 4 = 0 ∧ translate k va s = .ok t ∧ t.mat = 1 := by
  unfold resolveReserved
  simp only [bind_eq_ok, resolve_eq_ok]
  constructor
  · rintro ⟨u, ⟨ha, hu, _⟩, h⟩
    split at h
    · simp only [Access.ok.injEq] at h; subst h; exact ⟨ha, hu, ‹_›⟩
    · simp at h
  · rintro ⟨ha, ht, hm⟩
    exact ⟨t, ⟨ha, ht, by rw [hm]; decide⟩, by rw [if_pos hm]⟩

/-- The aligned words a naturally aligned store touches, each as it was: what a fetch may still see after it (R185). -/
theorem mem_staleWords {m : Memory} {pa n : Nat} {stage : SyncStage} (hn : n ∈ [1, 2, 4, 8]) (ha : pa % n = 0) (w : StaleWord) :
    w ∈ staleWords m pa n stage ↔
      w.stage = stage ∧ w.word = m.word w.addr ∧ w.addr % 4 = 0 ∧ w.addr < pa + n ∧ pa < w.addr + 4 := by
  have hk : ∀ i, i < (n + 3) / 4 → pa / 4 * 4 + 4 * i < pa + n ∧ pa < pa / 4 * 4 + 4 * i + 4 := by
    simp only [List.mem_cons, List.not_mem_nil, or_false] at hn
    rcases hn with rfl | rfl | rfl | rfl <;> intro i hi <;> omega
  unfold staleWords
  rw [List.mem_map]
  constructor
  · rintro ⟨i, hi, rfl⟩
    exact ⟨rfl, rfl, by dsimp only; omega, hk i (List.mem_range.mp hi)⟩
  · rintro ⟨hs, hw, h4, h1, h2⟩
    refine ⟨(w.addr - pa / 4 * 4) / 4, List.mem_range.mpr ?_, ?_⟩
    · simp only [List.mem_cons, List.not_mem_nil, or_false] at hn
      rcases hn with rfl | rfl | rfl | rfl <;> omega
    · have he : pa / 4 * 4 + 4 * ((w.addr - pa / 4 * 4) / 4) = w.addr := by
        simp only [List.mem_cons, List.not_mem_nil, or_false] at hn
        rcases hn with rfl | rfl | rfl | rfl <;> omega
      rw [he]
      cases w
      simp_all

/-- What a store that succeeds does: to RAM it writes and remembers the older words, to a device it is recorded. -/
theorem storeAt_ok {p : Place} {n : Nat} {v : DWord} {s t : State} (h : storeAt p n v s = .ok t) :
    (p.kind = .ram ∧ t = { s with
      mem := s.mem.write p.target.pa v n
      stale := staleWords s.mem p.target.pa n (if p.target.mat = 1 then .stored else .invalidated) ++ s.stale }) ∨
    (p.kind = .device ∧
      t = { s with io := ⟨true, p.target.pa, n, v &&& BitVec.ofNat 64 (2 ^ (8 * n) - 1)⟩ :: s.io }) := by
  unfold storeAt at h
  split at h
  · exact .inl ⟨‹_›, by simpa using h.symm⟩
  · simp at h
  · exact .inr ⟨‹_›, by simpa using h.symm⟩
  · simp at h

/-- A store raises no exception once it has reached its place. -/
theorem storeAt_not_raise {p : Place} {n : Nat} {v : DWord} {s : State} {x : Exc} {va : Word} :
    storeAt p n v s ≠ .raise x va := by
  unfold storeAt
  split <;> simp

/-- What a load can do: deliver its value, or take an exception. -/
theorem loadThen_next {n : Nat} {va : Word} {s t : State} {d : DWord → State → State} (h : loadThen n va s d = .next t) :
    (∃ p, locate .load n va s = .ok p ∧ t = advance (d (loadValue p n s) (afterLoad p n s))) ∨
    ∃ x w, locate .load n va s = .raise x w ∧ t = enter x w s := by
  rcases finish_next h with ⟨p, hp, h⟩ | h
  · exact .inl ⟨p, hp, by simpa using h.symm⟩
  · exact .inr h

/-- What a store can do: store, or take an exception. -/
theorem storeThen_next {n : Nat} {v : DWord} {va : Word} {s t : State} (h : storeThen n v va s = .next t) :
    (∃ p s', locate .store n va s = .ok p ∧ storeAt p n v s = .ok s' ∧ t = advance s') ∨
    ∃ x w, locate .store n va s = .raise x w ∧ t = enter x w s := by
  rcases finish_next h with ⟨p, hp, h⟩ | h
  · rcases finish_next h with ⟨s', hs, h⟩ | ⟨x, w, hs, _⟩
    · exact .inl ⟨p, s', hp, hs, by simpa using h.symm⟩
    · exact absurd hs storeAt_not_raise
  · exact .inr h

/-! Memory keeps its canonical form (R130; log 6). -/

theorem reset_mem_wf : State.reset.mem.wf := by decide

theorem storeAt_wf {p : Place} {n : Nat} {v : DWord} {s t : State} (hs : s.mem.wf) (h : storeAt p n v s = .ok t) :
    t.mem.wf := by
  rcases storeAt_ok h with ⟨_, rfl⟩ | ⟨_, rfl⟩
  · exact Memory.wf_write _ hs _ _ _
  · exact hs

/-- An agent's store is naturally aligned and holds its address (R138). -/
theorem AgentStore.pa_spec (c : AgentStore) :
    c.pa % c.size.bytes = 0 ∧ c.pa ≤ c.addr ∧ c.addr < c.pa + c.size.bytes := by
  unfold AgentStore.pa
  cases c.size <;> simp only [StoreSize.bytes] <;> omega

/-- Another agent's store settles the older words of its word, and no others; which words there are stays. -/
theorem mem_settleWord {a : Nat} {l : List StaleWord} {w : StaleWord} :
    w ∈ settleWord a l ↔ (w.addr ≠ a ∧ w ∈ l) ∨ (w.addr = a ∧ w.stage = .invalidated ∧ ∃ g, ⟨w.addr, w.word, g⟩ ∈ l) := by
  unfold settleWord
  rw [List.mem_map]
  constructor
  · rintro ⟨v, hv, rfl⟩
    by_cases h : v.addr = a
    · rw [if_pos h]
      exact .inr ⟨h, rfl, v.stage, hv⟩
    · rw [if_neg h]
      exact .inl ⟨h, hv⟩
  · rintro (⟨h, hw⟩ | ⟨h, hs, g, hg⟩)
    · exact ⟨w, hw, if_neg h⟩
    · exact ⟨⟨w.addr, w.word, g⟩, hg, by rw [if_pos h, ← hs]⟩

/-- The words a fetch may see do not depend on their stages. -/
theorem words_settleWord (a pa : Nat) (l : List StaleWord) :
    ((settleWord a l).filter fun w => w.addr = pa).map StaleWord.word = (l.filter fun w => w.addr = pa).map StaleWord.word := by
  induction l with
  | nil => rfl
  | cons w l ih =>
    have ha : (if w.addr = a then { w with stage := .invalidated } else w : StaleWord).addr = w.addr := by split <;> rfl
    have hw : (if w.addr = a then { w with stage := .invalidated } else w : StaleWord).word = w.word := by split <;> rfl
    unfold settleWord at ih ⊢
    rw [List.map_cons, List.filter_cons, List.filter_cons, ha]
    split <;> simp [ih, hw]

/-- What an agent's store does: it ends the reservation of its word; to RAM it writes at once, remembers that word as it was and
settles the older ones of that word; a store elsewhere changes nothing more. -/
theorem agentStore_eq (c : AgentStore) (s : State) :
    (regionKind c.pa s = .ram ∧ agentStore c s = { s with
      mem := s.mem.write c.pa (c.value.setWidth 64) c.size.bytes
      llbit := s.llbit && c.pa / 4 != s.lladdr / 4
      stale := ⟨c.pa / 4 * 4, s.mem.word (c.pa / 4 * 4), .invalidated⟩ :: settleWord (c.pa / 4 * 4) s.stale }) ∨
    (regionKind c.pa s ≠ .ram ∧ agentStore c s = { s with llbit := s.llbit && c.pa / 4 != s.lladdr / 4 }) := by
  have hw : ∀ m : Memory, staleWords m c.pa c.size.bytes .invalidated = [⟨c.pa / 4 * 4, m.word (c.pa / 4 * 4), .invalidated⟩] := by
    intro m
    unfold staleWords
    cases c.size <;> rfl
  by_cases h : regionKind c.pa s = .ram
  · exact .inl ⟨h, by simp [agentStore, h, hw]⟩
  · exact .inr ⟨h, by simp [agentStore, h]⟩

theorem agentStore_wf (c : AgentStore) {s : State} (hs : s.mem.wf) : (agentStore c s).mem.wf := by
  unfold agentStore
  dsimp only
  split
  · exact Memory.wf_write _ hs _ _ _
  · exact hs

theorem agentStores_wf (cs : List AgentStore) {s : State} (hs : s.mem.wf) : (agentStores cs s).mem.wf := by
  induction cs generalizing s with
  | nil => exact hs
  | cons c cs ih => exact ih (agentStore_wf c hs)

/-! Checks before an instruction. -/

/-- What a privileged instruction can do: its own effect at PLV0, IPE elsewhere. -/
theorem privileged_next {s t : State} {k : Result} (h : privileged s k = .next t) :
    (plv s = 0 ∧ k = .next t) ∨ (plv s ≠ 0 ∧ t = enter .IPE 0 s) := by
  unfold privileged trap at h
  split at h
  · exact .inl ⟨‹_›, h⟩
  · exact .inr ⟨‹_›, by simpa using h.symm⟩

theorem floating_ready {double : Bool} {s : State} (h : floatReady double s) (k : Result) : floating double s k = k := by
  obtain ⟨h1, h2, h3⟩ := h
  unfold floating
  rw [if_neg, if_pos h3]
  rintro (h | ⟨h, hd⟩)
  · exact h1 h
  · simp [h2 h] at hd

/-- What a floating-point instruction can do: its own effect, INE, or FPD. -/
theorem floating_next {double : Bool} {s t : State} {k : Result} (h : floating double s k = .next t) :
    (floatReady double s ∧ k = .next t) ∨ t = enter .INE 0 s ∨ t = enter .FPD 0 s := by
  unfold floating trap at h
  split at h
  · exact .inr (.inl (by simpa using h.symm))
  · rename_i hn
    rw [not_or, not_and] at hn
    split at h
    · exact .inl ⟨⟨hn.1, fun hs => by simpa using hn.2 hs, ‹_›⟩, h⟩
    · exact .inr (.inr (by simpa using h.symm))

/-- The status procedure where no raised exception is enabled. -/
theorem fpCommit_quiet {e : BitVec 5} {s : State} (h : e &&& fpEnables s = 0) (write : State → State) :
    fpCommit e s write = .next (advance (write (addFpFlags e (setFpCause e s)))) := by
  unfold fpCommit
  rw [if_neg (by simpa using h)]

/-- The status procedure where a raised exception is enabled: FPE, with only Cause changed before it. -/
theorem fpCommit_trap {e : BitVec 5} {s : State} (h : e &&& fpEnables s ≠ 0) (write : State → State) :
    fpCommit e s write = .next (enter .FPE 0 (setFpCause e s)) := by
  unfold fpCommit
  rw [if_pos h]
  rfl

/-- What the status procedure can do. -/
theorem fpCommit_next {e : BitVec 5} {s t : State} {write : State → State} (h : fpCommit e s write = .next t) :
    (e &&& fpEnables s = 0 ∧ t = advance (write (addFpFlags e (setFpCause e s)))) ∨
    (e &&& fpEnables s ≠ 0 ∧ t = enter .FPE 0 (setFpCause e s)) := by
  by_cases he : e &&& fpEnables s = 0
  · rw [fpCommit_quiet he] at h
    exact .inl ⟨he, by simpa using h.symm⟩
  · rw [fpCommit_trap he] at h
    exact .inr ⟨he, by simpa using h.symm⟩

/-! Control and status registers. -/

/-- A CSR write changes control and status registers, LLbit and the timer, nothing else. -/
theorem csrWrite_frame (n : BitVec 14) (v m : Word) (s : State) :
    csrWrite n v m s = { s with
      csr := (csrWrite n v m s).csr, llbit := (csrWrite n v m s).llbit
      timerVal := (csrWrite n v m s).timerVal, timerRun := (csrWrite n v m s).timerRun } := by
  unfold csrWrite csrEffect
  split
  · rfl
  · split <;> rfl

/-- The store TCFG, TICLR and LLBCTL do besides their own bits happens for no other number. -/
theorem csrEffect_other {n : BitVec 14} (h1 : n ≠ 0x41) (h2 : n ≠ 0x44) (h3 : n ≠ 0x60) (v m : Word) (s : State) :
    csrEffect n v m s = s := by
  unfold csrEffect
  split <;> simp_all

/-- What writing a TLB entry can do. -/
theorem tlbWriteAt_next {i : Nat} {s t : State} (h : tlbWriteAt i s = .next t) :
    ((newEntry s).e = true → supportedPage (newEntry s).ps = true) ∧
    t = advance { s with tlb := s.tlb.set i (newEntry s) } := by
  unfold tlbWriteAt at h
  split at h
  · simp at h
  · rename_i hn
    exact ⟨fun he => by simpa [he] using hn, by simpa using h.symm⟩

/-! The boundary of a step: what the outside world can change. -/

/-- A tick changes the counter, the timer and ESTAT. -/
theorem tick_frame (s : State) : tick s = { s with
    counter := s.counter + 1, timerVal := (tick s).timerVal, timerRun := (tick s).timerRun
    csr := { s.csr with estat := (tick s).csr.estat } } := rfl

/-- So do any number of them; the counter goes up by their number. -/
theorem ticks_frame (n : Nat) (s : State) : ticks n s = { s with
    counter := s.counter + BitVec.ofNat 64 n, timerVal := (ticks n s).timerVal, timerRun := (ticks n s).timerRun
    csr := { s.csr with estat := (ticks n s).csr.estat } } := by
  induction n generalizing s with
  | zero => simp [ticks]
  | succ n ih =>
    have hc : s.counter + 1 + BitVec.ofNat 64 n = s.counter + BitVec.ofNat 64 (n + 1) := by
      rw [BitVec.add_assoc, BitVec.ofNat_add, BitVec.add_comm (BitVec.ofNat 64 n)]
      rfl
    rw [ticks, ih (tick s)]
    simp only [← hc]
    rfl

/-- The clock does not read memory or the reservation. -/
theorem ticks_memory (n : Nat) (s : State) (b : Bool) (m : Memory) (l : List StaleWord) :
    ticks n { s with llbit := b, mem := m, stale := l } = { ticks n s with llbit := b, mem := m, stale := l } := by
  induction n generalizing s with
  | zero => rfl
  | succ n ih => exact ih (tick s)

/-- Stores by other agents change memory, LLbit and what fetches may still see. -/
theorem agentStores_frame (cs : List AgentStore) (s : State) : agentStores cs s = { s with
    mem := (agentStores cs s).mem, llbit := (agentStores cs s).llbit, stale := (agentStores cs s).stale } := by
  induction cs generalizing s with
  | nil => rfl
  | cons c cs ih =>
    rw [agentStores, ih (agentStore c s)]
    rfl

/-- What the boundary of a step does, field by field. -/
theorem boundary_eq (s : State) : boundary s =
    { ticks (nextInput s).ticks s with
      mem := (agentStores (nextInput s).agentStores s).mem
      stale := (agentStores (nextInput s).agentStores s).stale
      llbit := (agentStores (nextInput s).agentStores s).llbit && !(nextInput s).loseReservation
      csr := (sampleLines (nextInput s).hwi (nextInput s).ipi (ticks (nextInput s).ticks s)).csr
      inputs := s.inputs.tail
      draws := s.draws + 1 } := by
  have h := congrArg (fun u : State => { u with
    llbit := (agentStores (nextInput s).agentStores s).llbit && !(nextInput s).loseReservation })
    (agentStores_frame (nextInput s).agentStores s)
  dsimp only at h
  unfold boundary
  dsimp only
  rw [h, ticks_memory (nextInput s).ticks s]
  rfl

/-! The step. -/

/-- What a fetch of a place leaves: the state, but for a recorded device access. -/
theorem fetchFrom_state (choice : Nat) (p : Place) (s : State) :
    (fetchFrom choice p s).2 = { s with io := (fetchFrom choice p s).2.io } := by
  unfold fetchFrom
  split <;> rfl

/-- What decoding a fetched word leads to. -/
theorem decodePhase_next {w : Word} {s t : State} (h : (decodePhase w s).outcome = .next t) :
    (∃ i, decodeWord w = .ok i ∧ exec i s = .next t) ∨ t = enter .INE 0 s := by
  unfold decodePhase at h
  split at h
  · exact .inl ⟨_, ‹_›, h⟩
  · simp [Phase.outcome] at h
  · exact .inr (by simpa [Phase.outcome, trap] using h.symm)
  · exact .inr (by simpa [Phase.outcome, trap] using h.symm)

/-- What a fetch leads to. -/
theorem fetchPhase_next {c : Nat} {s t : State} (h : (fetchPhase c s).outcome = .next t) :
    (∃ p i, fetchPlace s = .ok p ∧ decodeWord (fetchFrom c p s).1 = .ok i ∧
      exec i { s with io := (fetchFrom c p s).2.io } = .next t) ∨
    ∃ x va io, t = enter x va { s with io := io } := by
  unfold fetchPhase at h
  split at h
  · rename_i p hp
    rw [fetchFrom_state] at h
    rcases decodePhase_next h with ⟨i, hi, h⟩ | h
    · exact .inl ⟨p, i, hp, hi, h⟩
    · exact .inr ⟨.INE, 0, _, h⟩
  · exact .inr ⟨_, _, s.io, by simpa [Phase.outcome] using h.symm⟩
  · simp [Phase.outcome] at h

/-- What a step leads to after its boundary: the core still waits, an exception or interrupt is taken, or an instruction runs. -/
theorem corePhase_next {i : StepInput} {b t : State} (h : (corePhase i b).outcome = .next t) :
    legalLevel b = true ∧ legalMode b = true ∧
    ((t = b ∧ b.waiting = true ∧ pendingVector b = 0) ∨
     (∃ x va io, t = enter x va { b with waiting := false, io := io }) ∨
     ∃ j io, exec j { b with waiting := false, io := io } = .next t) := by
  unfold corePhase at h
  split at h
  · simp [Phase.outcome] at h
  · split at h
    · simp [Phase.outcome] at h
    · refine ⟨by simpa using ‹¬legalLevel b = false›, by simpa using ‹¬legalMode b = false›, ?_⟩
      split at h
      · rename_i hw
        simp only [Bool.and_eq_true, beq_iff_eq] at hw
        exact .inl ⟨by simpa [Phase.outcome] using h.symm, hw⟩
      · split at h
        · exact .inr (.inl ⟨.INT, 0, b.io, by simpa [Phase.outcome, trap] using h.symm⟩)
        · rcases fetchPhase_next h with ⟨p, j, _, _, h⟩ | ⟨x, va, io, h⟩
          · exact .inr (.inr ⟨j, _, h⟩)
          · exact .inr (.inl ⟨x, va, io, h⟩)

/-- What a step leads to. -/
theorem step_next {s t : State} (h : step s = .next t) :
    legalLevel (boundary s) = true ∧ legalMode (boundary s) = true ∧
    ((t = boundary s ∧ (boundary s).waiting = true ∧ pendingVector (boundary s) = 0) ∨
     (∃ x va io, t = enter x va { boundary s with waiting := false, io := io }) ∨
     ∃ i io, exec i { boundary s with waiting := false, io := io } = .next t) :=
  corePhase_next h

/-- A step in a defined state, running or woken, with no interrupt taken, is a fetch from the state after the boundary. -/
theorem step_fetches {s : State} (hd : (boundary s).defined)
    (hw : (boundary s).waiting = true → pendingVector (boundary s) ≠ 0)
    (hi : interruptPending (boundary s) = true → (nextInput s).deferInterrupt = true) :
    step s = (fetchPhase (nextInput s).staleChoice { boundary s with waiting := false }).outcome := by
  unfold step prepare corePhase
  rw [if_neg (by simp [hd.1]), if_neg (by simp [hd.2]), if_neg, if_neg]
  · simp only [Bool.and_eq_true, Bool.not_eq_true']
    rintro ⟨h, hn⟩
    simp [hi h] at hn
  · simp only [Bool.and_eq_true, beq_iff_eq]
    exact fun h => hw h.1 h.2

end Sys2Proof.Machine
end

