-- ==== Sys2Proof/Laws/PerInstr.lean ====
section
/-! SUPPORT. The per-instruction family RoundTrip: the word of a well-formed instruction decodes to it (R202, R220). -/

namespace Sys2Proof.Laws.RoundTrip

set_option Elab.async false

/-- The word the encoder writes for `i` decodes to `i`. -/
def Statement (i : Instr) : Prop := i.wellFormed = true → decodeWord (encodeWord i) = .ok i

theorem rdcntid rj : Statement (.rdcntid rj) := by
  intro h
  simp [Instr.wellFormed] at h
  simp [Statement, encodeWord, decodeWord, decodeGroup0, decodeCounter, Instr.wellFormed, h]
theorem rdcntvlW rd : Statement (.rdcntvlW rd) := by
  simp [Statement, encodeWord, decodeWord, decodeGroup0, decodeCounter]
theorem rdcntvhW rd : Statement (.rdcntvhW rd) := by
  simp [Statement, encodeWord, decodeWord, decodeGroup0, decodeCounter]
theorem addW rd rj rk : Statement (.addW rd rj rk) := by
  simp [Statement, encodeWord, decodeWord, decodeGroup0, decodeCounter_of_op17, decodeInt3R]
theorem subW rd rj rk : Statement (.subW rd rj rk) := by
  simp [Statement, encodeWord, decodeWord, decodeGroup0, decodeCounter_of_op17, decodeInt3R]
theorem slt rd rj rk : Statement (.slt rd rj rk) := by
  simp [Statement, encodeWord, decodeWord, decodeGroup0, decodeCounter_of_op17, decodeInt3R]
theorem sltu rd rj rk : Statement (.sltu rd rj rk) := by
  simp [Statement, encodeWord, decodeWord, decodeGroup0, decodeCounter_of_op17, decodeInt3R]
theorem nor rd rj rk : Statement (.nor rd rj rk) := by
  simp [Statement, encodeWord, decodeWord, decodeGroup0, decodeCounter_of_op17, decodeInt3R]
theorem and rd rj rk : Statement (.and rd rj rk) := by
  simp [Statement, encodeWord, decodeWord, decodeGroup0, decodeCounter_of_op17, decodeInt3R]
theorem or rd rj rk : Statement (.or rd rj rk) := by
  simp [Statement, encodeWord, decodeWord, decodeGroup0, decodeCounter_of_op17, decodeInt3R]
theorem xor rd rj rk : Statement (.xor rd rj rk) := by
  simp [Statement, encodeWord, decodeWord, decodeGroup0, decodeCounter_of_op17, decodeInt3R]
theorem sllW rd rj rk : Statement (.sllW rd rj rk) := by
  simp [Statement, encodeWord, decodeWord, decodeGroup0, decodeCounter_of_op17, decodeInt3R]
theorem srlW rd rj rk : Statement (.srlW rd rj rk) := by
  simp [Statement, encodeWord, decodeWord, decodeGroup0, decodeCounter_of_op17, decodeInt3R]
theorem sraW rd rj rk : Statement (.sraW rd rj rk) := by
  simp [Statement, encodeWord, decodeWord, decodeGroup0, decodeCounter_of_op17, decodeInt3R]
theorem mulW rd rj rk : Statement (.mulW rd rj rk) := by
  simp [Statement, encodeWord, decodeWord, decodeGroup0, decodeCounter_of_op17, decodeInt3R]
theorem mulhW rd rj rk : Statement (.mulhW rd rj rk) := by
  simp [Statement, encodeWord, decodeWord, decodeGroup0, decodeCounter_of_op17, decodeInt3R]
theorem mulhWu rd rj rk : Statement (.mulhWu rd rj rk) := by
  simp [Statement, encodeWord, decodeWord, decodeGroup0, decodeCounter_of_op17, decodeInt3R]
theorem divW rd rj rk : Statement (.divW rd rj rk) := by
  simp [Statement, encodeWord, decodeWord, decodeGroup0, decodeCounter_of_op17, decodeInt3R]
theorem modW rd rj rk : Statement (.modW rd rj rk) := by
  simp [Statement, encodeWord, decodeWord, decodeGroup0, decodeCounter_of_op17, decodeInt3R]
theorem divWu rd rj rk : Statement (.divWu rd rj rk) := by
  simp [Statement, encodeWord, decodeWord, decodeGroup0, decodeCounter_of_op17, decodeInt3R]
theorem modWu rd rj rk : Statement (.modWu rd rj rk) := by
  simp [Statement, encodeWord, decodeWord, decodeGroup0, decodeCounter_of_op17, decodeInt3R]
theorem brk code : Statement (.brk code) := by
  simp [Statement, encodeWord, decodeWord, decodeGroup0, decodeCounter_of_op17, decodeInt3R]
theorem syscall code : Statement (.syscall code) := by
  simp [Statement, encodeWord, decodeWord, decodeGroup0, decodeCounter_of_op17, decodeInt3R]
theorem slliW rd rj ui5 : Statement (.slliW rd rj ui5) := by
  simp [Statement, encodeWord, decodeWord, decodeGroup0, decodeCounter_of_op17, decodeInt3R]
theorem srliW rd rj ui5 : Statement (.srliW rd rj ui5) := by
  simp [Statement, encodeWord, decodeWord, decodeGroup0, decodeCounter_of_op17, decodeInt3R]
theorem sraiW rd rj ui5 : Statement (.sraiW rd rj ui5) := by
  simp [Statement, encodeWord, decodeWord, decodeGroup0, decodeCounter_of_op17, decodeInt3R]
theorem faddS fd fj fk : Statement (.faddS fd fj fk) := by
  simp [Statement, encodeWord, decodeWord, decodeGroup0, decodeFloat]
theorem faddD fd fj fk : Statement (.faddD fd fj fk) := by
  simp [Statement, encodeWord, decodeWord, decodeGroup0, decodeFloat]
theorem fsubS fd fj fk : Statement (.fsubS fd fj fk) := by
  simp [Statement, encodeWord, decodeWord, decodeGroup0, decodeFloat]
theorem fsubD fd fj fk : Statement (.fsubD fd fj fk) := by
  simp [Statement, encodeWord, decodeWord, decodeGroup0, decodeFloat]
theorem fmulS fd fj fk : Statement (.fmulS fd fj fk) := by
  simp [Statement, encodeWord, decodeWord, decodeGroup0, decodeFloat]
theorem fmulD fd fj fk : Statement (.fmulD fd fj fk) := by
  simp [Statement, encodeWord, decodeWord, decodeGroup0, decodeFloat]
theorem fdivS fd fj fk : Statement (.fdivS fd fj fk) := by
  simp [Statement, encodeWord, decodeWord, decodeGroup0, decodeFloat]
theorem fdivD fd fj fk : Statement (.fdivD fd fj fk) := by
  simp [Statement, encodeWord, decodeWord, decodeGroup0, decodeFloat]
theorem fmaxS fd fj fk : Statement (.fmaxS fd fj fk) := by
  simp [Statement, encodeWord, decodeWord, decodeGroup0, decodeFloat]
theorem fmaxD fd fj fk : Statement (.fmaxD fd fj fk) := by
  simp [Statement, encodeWord, decodeWord, decodeGroup0, decodeFloat]
theorem fminS fd fj fk : Statement (.fminS fd fj fk) := by
  simp [Statement, encodeWord, decodeWord, decodeGroup0, decodeFloat]
theorem fminD fd fj fk : Statement (.fminD fd fj fk) := by
  simp [Statement, encodeWord, decodeWord, decodeGroup0, decodeFloat]
theorem fmaxaS fd fj fk : Statement (.fmaxaS fd fj fk) := by
  simp [Statement, encodeWord, decodeWord, decodeGroup0, decodeFloat]
theorem fmaxaD fd fj fk : Statement (.fmaxaD fd fj fk) := by
  simp [Statement, encodeWord, decodeWord, decodeGroup0, decodeFloat]
theorem fminaS fd fj fk : Statement (.fminaS fd fj fk) := by
  simp [Statement, encodeWord, decodeWord, decodeGroup0, decodeFloat]
theorem fminaD fd fj fk : Statement (.fminaD fd fj fk) := by
  simp [Statement, encodeWord, decodeWord, decodeGroup0, decodeFloat]
theorem fcopysignS fd fj fk : Statement (.fcopysignS fd fj fk) := by
  simp [Statement, encodeWord, decodeWord, decodeGroup0, decodeFloat]
theorem fcopysignD fd fj fk : Statement (.fcopysignD fd fj fk) := by
  simp [Statement, encodeWord, decodeWord, decodeGroup0, decodeFloat]
theorem fabsS fd fj : Statement (.fabsS fd fj) := by
  simp [Statement, encodeWord, decodeWord, decodeGroup0, decodeFloat, decodeFloat2R]
theorem fabsD fd fj : Statement (.fabsD fd fj) := by
  simp [Statement, encodeWord, decodeWord, decodeGroup0, decodeFloat, decodeFloat2R]
theorem fnegS fd fj : Statement (.fnegS fd fj) := by
  simp [Statement, encodeWord, decodeWord, decodeGroup0, decodeFloat, decodeFloat2R]
theorem fnegD fd fj : Statement (.fnegD fd fj) := by
  simp [Statement, encodeWord, decodeWord, decodeGroup0, decodeFloat, decodeFloat2R]
theorem fclassS fd fj : Statement (.fclassS fd fj) := by
  simp [Statement, encodeWord, decodeWord, decodeGroup0, decodeFloat, decodeFloat2R]
theorem fclassD fd fj : Statement (.fclassD fd fj) := by
  simp [Statement, encodeWord, decodeWord, decodeGroup0, decodeFloat, decodeFloat2R]
theorem fsqrtS fd fj : Statement (.fsqrtS fd fj) := by
  simp [Statement, encodeWord, decodeWord, decodeGroup0, decodeFloat, decodeFloat2R]
theorem fsqrtD fd fj : Statement (.fsqrtD fd fj) := by
  simp [Statement, encodeWord, decodeWord, decodeGroup0, decodeFloat, decodeFloat2R]
theorem frecipS fd fj : Statement (.frecipS fd fj) := by
  simp [Statement, encodeWord, decodeWord, decodeGroup0, decodeFloat, decodeFloat2R]
theorem frecipD fd fj : Statement (.frecipD fd fj) := by
  simp [Statement, encodeWord, decodeWord, decodeGroup0, decodeFloat, decodeFloat2R]
theorem frsqrtS fd fj : Statement (.frsqrtS fd fj) := by
  simp [Statement, encodeWord, decodeWord, decodeGroup0, decodeFloat, decodeFloat2R]
theorem frsqrtD fd fj : Statement (.frsqrtD fd fj) := by
  simp [Statement, encodeWord, decodeWord, decodeGroup0, decodeFloat, decodeFloat2R]
theorem fmovS fd fj : Statement (.fmovS fd fj) := by
  simp [Statement, encodeWord, decodeWord, decodeGroup0, decodeFloat, decodeFloat2R]
theorem fmovD fd fj : Statement (.fmovD fd fj) := by
  simp [Statement, encodeWord, decodeWord, decodeGroup0, decodeFloat, decodeFloat2R]
theorem movgr2frW fd rj : Statement (.movgr2frW fd rj) := by
  simp [Statement, encodeWord, decodeWord, decodeGroup0, decodeFloat, decodeFloat2R]
theorem movgr2frhW fd rj : Statement (.movgr2frhW fd rj) := by
  simp [Statement, encodeWord, decodeWord, decodeGroup0, decodeFloat, decodeFloat2R]
theorem movfr2grS rd fj : Statement (.movfr2grS rd fj) := by
  simp [Statement, encodeWord, decodeWord, decodeGroup0, decodeFloat, decodeFloat2R]
theorem movfrh2grS rd fj : Statement (.movfrh2grS rd fj) := by
  simp [Statement, encodeWord, decodeWord, decodeGroup0, decodeFloat, decodeFloat2R]
theorem movgr2fcsr fcsr rj : Statement (.movgr2fcsr fcsr rj) := by
  simp [Statement, encodeWord, decodeWord, decodeGroup0, decodeFloat, decodeFloat2R]
theorem movfcsr2gr rd fcsr : Statement (.movfcsr2gr rd fcsr) := by
  simp [Statement, encodeWord, decodeWord, decodeGroup0, decodeFloat, decodeFloat2R]
theorem movfr2cf cd fj : Statement (.movfr2cf cd fj) := by
  simp [Statement, encodeWord, decodeWord, decodeGroup0, decodeFloat, decodeFloat2R]
theorem movcf2fr fd cj : Statement (.movcf2fr fd cj) := by
  simp [Statement, encodeWord, decodeWord, decodeGroup0, decodeFloat, decodeFloat2R]
theorem movgr2cf cd rj : Statement (.movgr2cf cd rj) := by
  simp [Statement, encodeWord, decodeWord, decodeGroup0, decodeFloat, decodeFloat2R]
theorem movcf2gr rd cj : Statement (.movcf2gr rd cj) := by
  simp [Statement, encodeWord, decodeWord, decodeGroup0, decodeFloat, decodeFloat2R]
theorem fcvtSD fd fj : Statement (.fcvtSD fd fj) := by
  simp [Statement, encodeWord, decodeWord, decodeGroup0, decodeFloat, decodeFloat2R]
theorem fcvtDS fd fj : Statement (.fcvtDS fd fj) := by
  simp [Statement, encodeWord, decodeWord, decodeGroup0, decodeFloat, decodeFloat2R]
theorem ftintrmWS fd fj : Statement (.ftintrmWS fd fj) := by
  simp [Statement, encodeWord, decodeWord, decodeGroup0, decodeFloat, decodeFloat2R]
theorem ftintrmWD fd fj : Statement (.ftintrmWD fd fj) := by
  simp [Statement, encodeWord, decodeWord, decodeGroup0, decodeFloat, decodeFloat2R]
theorem ftintrpWS fd fj : Statement (.ftintrpWS fd fj) := by
  simp [Statement, encodeWord, decodeWord, decodeGroup0, decodeFloat, decodeFloat2R]
theorem ftintrpWD fd fj : Statement (.ftintrpWD fd fj) := by
  simp [Statement, encodeWord, decodeWord, decodeGroup0, decodeFloat, decodeFloat2R]
theorem ftintrzWS fd fj : Statement (.ftintrzWS fd fj) := by
  simp [Statement, encodeWord, decodeWord, decodeGroup0, decodeFloat, decodeFloat2R]
theorem ftintrzWD fd fj : Statement (.ftintrzWD fd fj) := by
  simp [Statement, encodeWord, decodeWord, decodeGroup0, decodeFloat, decodeFloat2R]
theorem ftintrneWS fd fj : Statement (.ftintrneWS fd fj) := by
  simp [Statement, encodeWord, decodeWord, decodeGroup0, decodeFloat, decodeFloat2R]
theorem ftintrneWD fd fj : Statement (.ftintrneWD fd fj) := by
  simp [Statement, encodeWord, decodeWord, decodeGroup0, decodeFloat, decodeFloat2R]
theorem ftintWS fd fj : Statement (.ftintWS fd fj) := by
  simp [Statement, encodeWord, decodeWord, decodeGroup0, decodeFloat, decodeFloat2R]
theorem ftintWD fd fj : Statement (.ftintWD fd fj) := by
  simp [Statement, encodeWord, decodeWord, decodeGroup0, decodeFloat, decodeFloat2R]
theorem ffintSW fd fj : Statement (.ffintSW fd fj) := by
  simp [Statement, encodeWord, decodeWord, decodeGroup0, decodeFloat, decodeFloat2R]
theorem ffintDW fd fj : Statement (.ffintDW fd fj) := by
  simp [Statement, encodeWord, decodeWord, decodeGroup0, decodeFloat, decodeFloat2R]
theorem slti rd rj si12 : Statement (.slti rd rj si12) := by
  simp [Statement, encodeWord, decodeWord, decodeGroup0, decodeImm12]
theorem sltui rd rj si12 : Statement (.sltui rd rj si12) := by
  simp [Statement, encodeWord, decodeWord, decodeGroup0, decodeImm12]
theorem addiW rd rj si12 : Statement (.addiW rd rj si12) := by
  simp [Statement, encodeWord, decodeWord, decodeGroup0, decodeImm12]
theorem andi rd rj ui12 : Statement (.andi rd rj ui12) := by
  simp [Statement, encodeWord, decodeWord, decodeGroup0, decodeImm12]
theorem ori rd rj ui12 : Statement (.ori rd rj ui12) := by
  simp [Statement, encodeWord, decodeWord, decodeGroup0, decodeImm12]
theorem xori rd rj ui12 : Statement (.xori rd rj ui12) := by
  simp [Statement, encodeWord, decodeWord, decodeGroup0, decodeImm12]
theorem csrrd rd csr : Statement (.csrrd rd csr) := by
  simp [Statement, encodeWord, decodeWord, decodeGroup1, decodeCsr]
theorem csrwr rd csr : Statement (.csrwr rd csr) := by
  simp [Statement, encodeWord, decodeWord, decodeGroup1, decodeCsr]
theorem csrxchg rd rj csr : Statement (.csrxchg rd rj csr) := by
  intro h
  simp only [Instr.wellFormed, Bool.and_eq_true, bne_iff_ne] at h
  simp [Statement, encodeWord, decodeWord, decodeGroup1, decodeCsr, Instr.wellFormed]
  split <;> simp_all
theorem cacop code rj si12 : Statement (.cacop code rj si12) := by
  simp [Statement, encodeWord, decodeWord, decodeGroup1, decodeImm12]
theorem tlbsrch : Statement .tlbsrch := fun _ => rfl
theorem tlbrd : Statement .tlbrd := fun _ => rfl
theorem tlbwr : Statement .tlbwr := fun _ => rfl
theorem tlbfill : Statement .tlbfill := fun _ => rfl
theorem ertn : Statement .ertn := fun _ => rfl
theorem idle level : Statement (.idle level) := by
  simp [Statement, encodeWord, decodeWord, decodeGroup1, decodeTlb]
theorem invtlb op rj rk : Statement (.invtlb op rj rk) := by
  simp [Statement, encodeWord, decodeWord, decodeGroup1, decodeTlb]
theorem fmaddS fd fj fk fa : Statement (.fmaddS fd fj fk fa) := by
  simp [Statement, encodeWord, decodeWord, decode4R]
theorem fmaddD fd fj fk fa : Statement (.fmaddD fd fj fk fa) := by
  simp [Statement, encodeWord, decodeWord, decode4R]
theorem fmsubS fd fj fk fa : Statement (.fmsubS fd fj fk fa) := by
  simp [Statement, encodeWord, decodeWord, decode4R]
theorem fmsubD fd fj fk fa : Statement (.fmsubD fd fj fk fa) := by
  simp [Statement, encodeWord, decodeWord, decode4R]
theorem fnmaddS fd fj fk fa : Statement (.fnmaddS fd fj fk fa) := by
  simp [Statement, encodeWord, decodeWord, decode4R]
theorem fnmaddD fd fj fk fa : Statement (.fnmaddD fd fj fk fa) := by
  simp [Statement, encodeWord, decodeWord, decode4R]
theorem fnmsubS fd fj fk fa : Statement (.fnmsubS fd fj fk fa) := by
  simp [Statement, encodeWord, decodeWord, decode4R]
theorem fnmsubD fd fj fk fa : Statement (.fnmsubD fd fj fk fa) := by
  simp [Statement, encodeWord, decodeWord, decode4R]
theorem fcmpCafS cd fj fk : Statement (.fcmpCafS cd fj fk) := by
  simp [Statement, encodeWord, decodeWord, decodeGroup3, decodeFcmpS]
theorem fcmpSafS cd fj fk : Statement (.fcmpSafS cd fj fk) := by
  simp [Statement, encodeWord, decodeWord, decodeGroup3, decodeFcmpS]
theorem fcmpCltS cd fj fk : Statement (.fcmpCltS cd fj fk) := by
  simp [Statement, encodeWord, decodeWord, decodeGroup3, decodeFcmpS]
theorem fcmpSltS cd fj fk : Statement (.fcmpSltS cd fj fk) := by
  simp [Statement, encodeWord, decodeWord, decodeGroup3, decodeFcmpS]
theorem fcmpCeqS cd fj fk : Statement (.fcmpCeqS cd fj fk) := by
  simp [Statement, encodeWord, decodeWord, decodeGroup3, decodeFcmpS]
theorem fcmpSeqS cd fj fk : Statement (.fcmpSeqS cd fj fk) := by
  simp [Statement, encodeWord, decodeWord, decodeGroup3, decodeFcmpS]
theorem fcmpCleS cd fj fk : Statement (.fcmpCleS cd fj fk) := by
  simp [Statement, encodeWord, decodeWord, decodeGroup3, decodeFcmpS]
theorem fcmpSleS cd fj fk : Statement (.fcmpSleS cd fj fk) := by
  simp [Statement, encodeWord, decodeWord, decodeGroup3, decodeFcmpS]
theorem fcmpCunS cd fj fk : Statement (.fcmpCunS cd fj fk) := by
  simp [Statement, encodeWord, decodeWord, decodeGroup3, decodeFcmpS]
theorem fcmpSunS cd fj fk : Statement (.fcmpSunS cd fj fk) := by
  simp [Statement, encodeWord, decodeWord, decodeGroup3, decodeFcmpS]
theorem fcmpCultS cd fj fk : Statement (.fcmpCultS cd fj fk) := by
  simp [Statement, encodeWord, decodeWord, decodeGroup3, decodeFcmpS]
theorem fcmpSultS cd fj fk : Statement (.fcmpSultS cd fj fk) := by
  simp [Statement, encodeWord, decodeWord, decodeGroup3, decodeFcmpS]
theorem fcmpCueqS cd fj fk : Statement (.fcmpCueqS cd fj fk) := by
  simp [Statement, encodeWord, decodeWord, decodeGroup3, decodeFcmpS]
theorem fcmpSueqS cd fj fk : Statement (.fcmpSueqS cd fj fk) := by
  simp [Statement, encodeWord, decodeWord, decodeGroup3, decodeFcmpS]
theorem fcmpCuleS cd fj fk : Statement (.fcmpCuleS cd fj fk) := by
  simp [Statement, encodeWord, decodeWord, decodeGroup3, decodeFcmpS]
theorem fcmpSuleS cd fj fk : Statement (.fcmpSuleS cd fj fk) := by
  simp [Statement, encodeWord, decodeWord, decodeGroup3, decodeFcmpS]
theorem fcmpCneS cd fj fk : Statement (.fcmpCneS cd fj fk) := by
  simp [Statement, encodeWord, decodeWord, decodeGroup3, decodeFcmpS]
theorem fcmpSneS cd fj fk : Statement (.fcmpSneS cd fj fk) := by
  simp [Statement, encodeWord, decodeWord, decodeGroup3, decodeFcmpS]
theorem fcmpCorS cd fj fk : Statement (.fcmpCorS cd fj fk) := by
  simp [Statement, encodeWord, decodeWord, decodeGroup3, decodeFcmpS]
theorem fcmpSorS cd fj fk : Statement (.fcmpSorS cd fj fk) := by
  simp [Statement, encodeWord, decodeWord, decodeGroup3, decodeFcmpS]
theorem fcmpCuneS cd fj fk : Statement (.fcmpCuneS cd fj fk) := by
  simp [Statement, encodeWord, decodeWord, decodeGroup3, decodeFcmpS]
theorem fcmpSuneS cd fj fk : Statement (.fcmpSuneS cd fj fk) := by
  simp [Statement, encodeWord, decodeWord, decodeGroup3, decodeFcmpS]
theorem fcmpCafD cd fj fk : Statement (.fcmpCafD cd fj fk) := by
  simp [Statement, encodeWord, decodeWord, decodeGroup3, decodeFcmpD]
theorem fcmpSafD cd fj fk : Statement (.fcmpSafD cd fj fk) := by
  simp [Statement, encodeWord, decodeWord, decodeGroup3, decodeFcmpD]
theorem fcmpCltD cd fj fk : Statement (.fcmpCltD cd fj fk) := by
  simp [Statement, encodeWord, decodeWord, decodeGroup3, decodeFcmpD]
theorem fcmpSltD cd fj fk : Statement (.fcmpSltD cd fj fk) := by
  simp [Statement, encodeWord, decodeWord, decodeGroup3, decodeFcmpD]
theorem fcmpCeqD cd fj fk : Statement (.fcmpCeqD cd fj fk) := by
  simp [Statement, encodeWord, decodeWord, decodeGroup3, decodeFcmpD]
theorem fcmpSeqD cd fj fk : Statement (.fcmpSeqD cd fj fk) := by
  simp [Statement, encodeWord, decodeWord, decodeGroup3, decodeFcmpD]
theorem fcmpCleD cd fj fk : Statement (.fcmpCleD cd fj fk) := by
  simp [Statement, encodeWord, decodeWord, decodeGroup3, decodeFcmpD]
theorem fcmpSleD cd fj fk : Statement (.fcmpSleD cd fj fk) := by
  simp [Statement, encodeWord, decodeWord, decodeGroup3, decodeFcmpD]
theorem fcmpCunD cd fj fk : Statement (.fcmpCunD cd fj fk) := by
  simp [Statement, encodeWord, decodeWord, decodeGroup3, decodeFcmpD]
theorem fcmpSunD cd fj fk : Statement (.fcmpSunD cd fj fk) := by
  simp [Statement, encodeWord, decodeWord, decodeGroup3, decodeFcmpD]
theorem fcmpCultD cd fj fk : Statement (.fcmpCultD cd fj fk) := by
  simp [Statement, encodeWord, decodeWord, decodeGroup3, decodeFcmpD]
theorem fcmpSultD cd fj fk : Statement (.fcmpSultD cd fj fk) := by
  simp [Statement, encodeWord, decodeWord, decodeGroup3, decodeFcmpD]
theorem fcmpCueqD cd fj fk : Statement (.fcmpCueqD cd fj fk) := by
  simp [Statement, encodeWord, decodeWord, decodeGroup3, decodeFcmpD]
theorem fcmpSueqD cd fj fk : Statement (.fcmpSueqD cd fj fk) := by
  simp [Statement, encodeWord, decodeWord, decodeGroup3, decodeFcmpD]
theorem fcmpCuleD cd fj fk : Statement (.fcmpCuleD cd fj fk) := by
  simp [Statement, encodeWord, decodeWord, decodeGroup3, decodeFcmpD]
theorem fcmpSuleD cd fj fk : Statement (.fcmpSuleD cd fj fk) := by
  simp [Statement, encodeWord, decodeWord, decodeGroup3, decodeFcmpD]
theorem fcmpCneD cd fj fk : Statement (.fcmpCneD cd fj fk) := by
  simp [Statement, encodeWord, decodeWord, decodeGroup3, decodeFcmpD]
theorem fcmpSneD cd fj fk : Statement (.fcmpSneD cd fj fk) := by
  simp [Statement, encodeWord, decodeWord, decodeGroup3, decodeFcmpD]
theorem fcmpCorD cd fj fk : Statement (.fcmpCorD cd fj fk) := by
  simp [Statement, encodeWord, decodeWord, decodeGroup3, decodeFcmpD]
theorem fcmpSorD cd fj fk : Statement (.fcmpSorD cd fj fk) := by
  simp [Statement, encodeWord, decodeWord, decodeGroup3, decodeFcmpD]
theorem fcmpCuneD cd fj fk : Statement (.fcmpCuneD cd fj fk) := by
  simp [Statement, encodeWord, decodeWord, decodeGroup3, decodeFcmpD]
theorem fcmpSuneD cd fj fk : Statement (.fcmpSuneD cd fj fk) := by
  simp [Statement, encodeWord, decodeWord, decodeGroup3, decodeFcmpD]
theorem fsel fd fj fk ca : Statement (.fsel fd fj fk ca) := by
  simp [Statement, encodeWord, decodeWord, decodeGroup3]
theorem lu12iW rd si20 : Statement (.lu12iW rd si20) := by
  simp [Statement, encodeWord, decodeWord, decodeUpper]
theorem pcaddu12i rd si20 : Statement (.pcaddu12i rd si20) := by
  simp [Statement, encodeWord, decodeWord, decodeUpper]
theorem llW rd rj si14 : Statement (.llW rd rj si14) := by
  simp [Statement, encodeWord, decodeWord, decodeReservation]
theorem scW rd rj si14 : Statement (.scW rd rj si14) := by
  simp [Statement, encodeWord, decodeWord, decodeReservation]
theorem ldB rd rj si12 : Statement (.ldB rd rj si12) := by
  simp [Statement, encodeWord, decodeWord, decodeImm12]
theorem ldH rd rj si12 : Statement (.ldH rd rj si12) := by
  simp [Statement, encodeWord, decodeWord, decodeImm12]
theorem ldW rd rj si12 : Statement (.ldW rd rj si12) := by
  simp [Statement, encodeWord, decodeWord, decodeImm12]
theorem stB rd rj si12 : Statement (.stB rd rj si12) := by
  simp [Statement, encodeWord, decodeWord, decodeImm12]
theorem stH rd rj si12 : Statement (.stH rd rj si12) := by
  simp [Statement, encodeWord, decodeWord, decodeImm12]
theorem stW rd rj si12 : Statement (.stW rd rj si12) := by
  simp [Statement, encodeWord, decodeWord, decodeImm12]
theorem ldBu rd rj si12 : Statement (.ldBu rd rj si12) := by
  simp [Statement, encodeWord, decodeWord, decodeImm12]
theorem ldHu rd rj si12 : Statement (.ldHu rd rj si12) := by
  simp [Statement, encodeWord, decodeWord, decodeImm12]
theorem preld hint rj si12 : Statement (.preld hint rj si12) := by
  simp [Statement, encodeWord, decodeWord, decodeImm12]
theorem fldS fd rj si12 : Statement (.fldS fd rj si12) := by
  simp [Statement, encodeWord, decodeWord, decodeImm12]
theorem fstS fd rj si12 : Statement (.fstS fd rj si12) := by
  simp [Statement, encodeWord, decodeWord, decodeImm12]
theorem fldD fd rj si12 : Statement (.fldD fd rj si12) := by
  simp [Statement, encodeWord, decodeWord, decodeImm12]
theorem fstD fd rj si12 : Statement (.fstD fd rj si12) := by
  simp [Statement, encodeWord, decodeWord, decodeImm12]
theorem dbar hint : Statement (.dbar hint) := by
  simp [Statement, encodeWord, decodeWord, decodeBarrier]
theorem ibar hint : Statement (.ibar hint) := by
  simp [Statement, encodeWord, decodeWord, decodeBarrier]
theorem bceqz cj offs : Statement (.bceqz cj offs) := by
  simp [Statement, encodeWord, decodeWord, decodeFlagBranch]
theorem bcnez cj offs : Statement (.bcnez cj offs) := by
  simp [Statement, encodeWord, decodeWord, decodeFlagBranch]
theorem jirl rd rj offs : Statement (.jirl rd rj offs) := by
  simp [Statement, encodeWord, decodeWord]
theorem b offs : Statement (.b offs) := by
  simp [Statement, encodeWord, decodeWord]
theorem bl offs : Statement (.bl offs) := by
  simp [Statement, encodeWord, decodeWord]
theorem beq rj rd offs : Statement (.beq rj rd offs) := by
  simp [Statement, encodeWord, decodeWord]
theorem bne rj rd offs : Statement (.bne rj rd offs) := by
  simp [Statement, encodeWord, decodeWord]
theorem blt rj rd offs : Statement (.blt rj rd offs) := by
  simp [Statement, encodeWord, decodeWord]
theorem bge rj rd offs : Statement (.bge rj rd offs) := by
  simp [Statement, encodeWord, decodeWord]
theorem bltu rj rd offs : Statement (.bltu rj rd offs) := by
  simp [Statement, encodeWord, decodeWord]
theorem bgeu rj rd offs : Statement (.bgeu rj rd offs) := by
  simp [Statement, encodeWord, decodeWord]

end Sys2Proof.Laws.RoundTrip
end

