-- ==== Sys2Proof/Laws/Results.lean ====
section
/-! SUPPORT. How an instruction that writes one register ends, in the words the statements use (Safety.lean). -/

namespace Sys2Proof.Machine

/-- Writing `rd` and going on is `wroteGpr`, r0 included (R31). -/
theorem wroteGpr_gprSet (rd : Reg) (v : Word) (s : State) : wroteGpr rd v s (advance (gprSet rd v s)) := by
  refine ⟨?_, fun r h => by simp [gprGet_gprSet, h], ?_⟩
  · by_cases h : rd = 0#5
    · subst h; simp [gprGet]
    · simp [gprGet_gprSet, h]
  · simp [keepsFloat, keepsSystem, keepsTime, keepsStorage, keepsModel]

/-- An instruction whose meaning is one register write completes as `wroteGpr`. -/
theorem completes_gprSet {i : Instr} {s : State} {rd : Reg} {v w : Word} (h : exec i s = .next (advance (gprSet rd v s)))
    (e : v = w) : completes i s (wroteGpr rd w s) := ⟨_, h, e ▸ wroteGpr_gprSet rd v s⟩

/-- Writing a whole floating-point register. -/
theorem wroteDouble_fprSet (fd : FReg) (v : DWord) (s : State) : wroteDouble fd v s (advance (fprSet fd v s)) := by
  refine ⟨by simp [fprGet_fprSet], fun r h => by simp [fprGet_fprSet, h], ?_⟩
  simp [keepsGprs, keepsSystem, keepsTime, keepsStorage, keepsModel]

/-- Writing a single or word: of the upper half nothing is said. -/
theorem wroteSingle_fprSetW (fd : FReg) (v : Word) (s : State) : wroteSingle fd v s (advance (fprSetW fd v s)) := by
  refine ⟨by simp [fprGetW_fprSetW_self], fun r h => by simp [fprGet_fprSetW_ne, h], ?_⟩
  simp [keepsGprs, keepsSystem, keepsTime, keepsStorage, keepsModel]

/-- Writing a condition flag. -/
theorem wroteFlag_cfSet (cd : CFlag) (b : Bool) (s : State) : wroteFlag cd b s (advance (cfSet cd b s)) := by
  refine ⟨by simp [cfGet_cfSet], fun c h => by simp [cfGet_cfSet, h], ?_⟩
  simp [keepsGprs, keepsSystem, keepsTime, keepsStorage, keepsModel]

/-- fcsr0 after the status procedure where nothing trapped (R366). -/
theorem statusAfter_quiet (e : BitVec 5) (s : State) : statusAfter e s (addFpFlags e (setFpCause e s)) := by
  refine ⟨?_, ?_, ?_⟩ <;> simp only [addFpFlags, setFpCause, setBits] <;> ext k hk <;> interval_cases k <;> simp

/-- fcsr0 after it trapped (R366). -/
theorem trappedStatus_cause (e : BitVec 5) (s : State) : trappedStatus e s (setFpCause e s) := by
  refine ⟨?_, ?_⟩ <;> simp only [setFpCause, setBits] <;> ext k hk <;> interval_cases k <;> simp

end Sys2Proof.Machine
end

