-- ==== Sys2Proof/Tests/Slice0.lean ====
section
/-! SUPPORT. Tests: each expected value is one of the spec's worked examples or is computed by hand from the rule named; and,
for every statement that has hypotheses, a concrete state that meets them. -/

namespace Sys2Proof.Tests

open Sys2Proof.Machine

set_option Elab.async false

/-! Ill-formed instructions are refused: the three rows with a constraint (30_encoding.md R220, R354, R484). -/

theorem test_rdcntid_r0_ill_formed : (Instr.rdcntid 0).wellFormed = false := by decide
theorem test_csrxchg_mask_r0_ill_formed : (Instr.csrxchg 4 0 0).wellFormed = false := by decide
theorem test_csrxchg_mask_r1_ill_formed : (Instr.csrxchg 4 1 0).wellFormed = false := by decide
theorem test_csrxchg_mask_r2_well_formed : (Instr.csrxchg 4 2 0).wellFormed = true := by decide

/-! Words: every row of spec/opcode_table.json, its operand fields filled in from the row's field positions (30_encoding.md
R204 to R215), the word computed outside Lean. -/

theorem test_words_1 : ∀ q ∈ ([
    (0x000061A0, .rdcntid 0xd), (0x00006017, .rdcntvlW 0x17), (0x00006417, .rdcntvhW 0x17), (0x001069B7, .addW 0x17 0xd 0x1a),
    (0x001169B7, .subW 0x17 0xd 0x1a), (0x001269B7, .slt 0x17 0xd 0x1a), (0x0012E9B7, .sltu 0x17 0xd 0x1a),
    (0x001469B7, .nor 0x17 0xd 0x1a), (0x0014E9B7, .and 0x17 0xd 0x1a), (0x001569B7, .or 0x17 0xd 0x1a),
    (0x0015E9B7, .xor 0x17 0xd 0x1a), (0x001769B7, .sllW 0x17 0xd 0x1a), (0x0017E9B7, .srlW 0x17 0xd 0x1a),
    (0x001869B7, .sraW 0x17 0xd 0x1a), (0x001C69B7, .mulW 0x17 0xd 0x1a), (0x001CE9B7, .mulhW 0x17 0xd 0x1a),
    (0x001D69B7, .mulhWu 0x17 0xd 0x1a), (0x002069B7, .divW 0x17 0xd 0x1a), (0x0020E9B7, .modW 0x17 0xd 0x1a),
    (0x002169B7, .divWu 0x17 0xd 0x1a), (0x0021E9B7, .modWu 0x17 0xd 0x1a), (0x002A4C35, .brk 0x4c35),
    (0x002B4C35, .syscall 0x4c35), (0x0040D9B7, .slliW 0x17 0xd 0x16), (0x0044D9B7, .srliW 0x17 0xd 0x16),
    (0x0048D9B7, .sraiW 0x17 0xd 0x16)] : List (Nat × Instr)), decodeTableWord 32 q.1 = some q.2 := by decide +kernel

theorem test_words_2 : ∀ q ∈ ([
    (0x0100E9B7, .faddS 0x17 0xd 0x1a), (0x010169B7, .faddD 0x17 0xd 0x1a), (0x0102E9B7, .fsubS 0x17 0xd 0x1a),
    (0x010369B7, .fsubD 0x17 0xd 0x1a), (0x0104E9B7, .fmulS 0x17 0xd 0x1a), (0x010569B7, .fmulD 0x17 0xd 0x1a),
    (0x0106E9B7, .fdivS 0x17 0xd 0x1a), (0x010769B7, .fdivD 0x17 0xd 0x1a), (0x0108E9B7, .fmaxS 0x17 0xd 0x1a),
    (0x010969B7, .fmaxD 0x17 0xd 0x1a), (0x010AE9B7, .fminS 0x17 0xd 0x1a), (0x010B69B7, .fminD 0x17 0xd 0x1a),
    (0x010CE9B7, .fmaxaS 0x17 0xd 0x1a), (0x010D69B7, .fmaxaD 0x17 0xd 0x1a), (0x010EE9B7, .fminaS 0x17 0xd 0x1a),
    (0x010F69B7, .fminaD 0x17 0xd 0x1a), (0x0112E9B7, .fcopysignS 0x17 0xd 0x1a), (0x011369B7, .fcopysignD 0x17 0xd 0x1a),
    (0x011405B7, .fabsS 0x17 0xd), (0x011409B7, .fabsD 0x17 0xd), (0x011415B7, .fnegS 0x17 0xd),
    (0x011419B7, .fnegD 0x17 0xd), (0x011435B7, .fclassS 0x17 0xd), (0x011439B7, .fclassD 0x17 0xd),
    (0x011445B7, .fsqrtS 0x17 0xd), (0x011449B7, .fsqrtD 0x17 0xd)] : List (Nat × Instr)), decodeTableWord 32 q.1 = some q.2 := by decide +kernel

theorem test_words_3 : ∀ q ∈ ([
    (0x011455B7, .frecipS 0x17 0xd), (0x011459B7, .frecipD 0x17 0xd), (0x011465B7, .frsqrtS 0x17 0xd),
    (0x011469B7, .frsqrtD 0x17 0xd), (0x011495B7, .fmovS 0x17 0xd), (0x011499B7, .fmovD 0x17 0xd),
    (0x0114A5B7, .movgr2frW 0x17 0xd), (0x0114ADB7, .movgr2frhW 0x17 0xd), (0x0114B5B7, .movfr2grS 0x17 0xd),
    (0x0114BDB7, .movfrh2grS 0x17 0xd), (0x0114C1A2, .movgr2fcsr 0x2 0xd), (0x0114C857, .movfcsr2gr 0x17 0x2),
    (0x0114D1A5, .movfr2cf 0x5 0xd), (0x0114D4D7, .movcf2fr 0x17 0x6), (0x0114D9A5, .movgr2cf 0x5 0xd),
    (0x0114DCD7, .movcf2gr 0x17 0x6), (0x011919B7, .fcvtSD 0x17 0xd), (0x011925B7, .fcvtDS 0x17 0xd),
    (0x011A05B7, .ftintrmWS 0x17 0xd), (0x011A09B7, .ftintrmWD 0x17 0xd), (0x011A45B7, .ftintrpWS 0x17 0xd),
    (0x011A49B7, .ftintrpWD 0x17 0xd), (0x011A85B7, .ftintrzWS 0x17 0xd), (0x011A89B7, .ftintrzWD 0x17 0xd),
    (0x011AC5B7, .ftintrneWS 0x17 0xd), (0x011AC9B7, .ftintrneWD 0x17 0xd)] : List (Nat × Instr)), decodeTableWord 32 q.1 = some q.2 := by decide +kernel

theorem test_words_4 : ∀ q ∈ ([
    (0x011B05B7, .ftintWS 0x17 0xd), (0x011B09B7, .ftintWD 0x17 0xd), (0x011D11B7, .ffintSW 0x17 0xd),
    (0x011D21B7, .ffintDW 0x17 0xd), (0x02294DB7, .slti 0x17 0xd 0xa53), (0x02694DB7, .sltui 0x17 0xd 0xa53),
    (0x02A94DB7, .addiW 0x17 0xd 0xa53), (0x036719B7, .andi 0x17 0xd 0x9c6), (0x03A719B7, .ori 0x17 0xd 0x9c6),
    (0x03E719B7, .xori 0x17 0xd 0x9c6), (0x04060017, .csrrd 0x17 0x180), (0x04060037, .csrwr 0x17 0x180),
    (0x040601B7, .csrxchg 0x17 0xd 0x180), (0x06294DB1, .cacop 0x11 0xd 0xa53), (0x06482800, .tlbsrch), (0x06482C00, .tlbrd),
    (0x06483000, .tlbwr), (0x06483400, .tlbfill), (0x06483800, .ertn), (0x0648CC35, .idle 0x4c35),
    (0x0649E9A5, .invtlb 0x5 0xd 0x1a), (0x0819E9B7, .fmaddS 0x17 0xd 0x1a 0x13), (0x0829E9B7, .fmaddD 0x17 0xd 0x1a 0x13),
    (0x0859E9B7, .fmsubS 0x17 0xd 0x1a 0x13), (0x0869E9B7, .fmsubD 0x17 0xd 0x1a 0x13),
    (0x0899E9B7, .fnmaddS 0x17 0xd 0x1a 0x13)] : List (Nat × Instr)), decodeTableWord 32 q.1 = some q.2 := by decide +kernel

theorem test_words_5 : ∀ q ∈ ([
    (0x08A9E9B7, .fnmaddD 0x17 0xd 0x1a 0x13), (0x08D9E9B7, .fnmsubS 0x17 0xd 0x1a 0x13),
    (0x08E9E9B7, .fnmsubD 0x17 0xd 0x1a 0x13), (0x0C1069A5, .fcmpCafS 0x5 0xd 0x1a), (0x0C10E9A5, .fcmpSafS 0x5 0xd 0x1a),
    (0x0C1169A5, .fcmpCltS 0x5 0xd 0x1a), (0x0C11E9A5, .fcmpSltS 0x5 0xd 0x1a), (0x0C1269A5, .fcmpCeqS 0x5 0xd 0x1a),
    (0x0C12E9A5, .fcmpSeqS 0x5 0xd 0x1a), (0x0C1369A5, .fcmpCleS 0x5 0xd 0x1a), (0x0C13E9A5, .fcmpSleS 0x5 0xd 0x1a),
    (0x0C1469A5, .fcmpCunS 0x5 0xd 0x1a), (0x0C14E9A5, .fcmpSunS 0x5 0xd 0x1a), (0x0C1569A5, .fcmpCultS 0x5 0xd 0x1a),
    (0x0C15E9A5, .fcmpSultS 0x5 0xd 0x1a), (0x0C1669A5, .fcmpCueqS 0x5 0xd 0x1a), (0x0C16E9A5, .fcmpSueqS 0x5 0xd 0x1a),
    (0x0C1769A5, .fcmpCuleS 0x5 0xd 0x1a), (0x0C17E9A5, .fcmpSuleS 0x5 0xd 0x1a), (0x0C1869A5, .fcmpCneS 0x5 0xd 0x1a),
    (0x0C18E9A5, .fcmpSneS 0x5 0xd 0x1a), (0x0C1A69A5, .fcmpCorS 0x5 0xd 0x1a), (0x0C1AE9A5, .fcmpSorS 0x5 0xd 0x1a),
    (0x0C1C69A5, .fcmpCuneS 0x5 0xd 0x1a), (0x0C1CE9A5, .fcmpSuneS 0x5 0xd 0x1a), (0x0C2069A5, .fcmpCafD 0x5 0xd 0x1a)] : List (Nat × Instr)), decodeTableWord 32 q.1 = some q.2 := by decide +kernel

theorem test_words_6 : ∀ q ∈ ([
    (0x0C20E9A5, .fcmpSafD 0x5 0xd 0x1a), (0x0C2169A5, .fcmpCltD 0x5 0xd 0x1a), (0x0C21E9A5, .fcmpSltD 0x5 0xd 0x1a),
    (0x0C2269A5, .fcmpCeqD 0x5 0xd 0x1a), (0x0C22E9A5, .fcmpSeqD 0x5 0xd 0x1a), (0x0C2369A5, .fcmpCleD 0x5 0xd 0x1a),
    (0x0C23E9A5, .fcmpSleD 0x5 0xd 0x1a), (0x0C2469A5, .fcmpCunD 0x5 0xd 0x1a), (0x0C24E9A5, .fcmpSunD 0x5 0xd 0x1a),
    (0x0C2569A5, .fcmpCultD 0x5 0xd 0x1a), (0x0C25E9A5, .fcmpSultD 0x5 0xd 0x1a), (0x0C2669A5, .fcmpCueqD 0x5 0xd 0x1a),
    (0x0C26E9A5, .fcmpSueqD 0x5 0xd 0x1a), (0x0C2769A5, .fcmpCuleD 0x5 0xd 0x1a), (0x0C27E9A5, .fcmpSuleD 0x5 0xd 0x1a),
    (0x0C2869A5, .fcmpCneD 0x5 0xd 0x1a), (0x0C28E9A5, .fcmpSneD 0x5 0xd 0x1a), (0x0C2A69A5, .fcmpCorD 0x5 0xd 0x1a),
    (0x0C2AE9A5, .fcmpSorD 0x5 0xd 0x1a), (0x0C2C69A5, .fcmpCuneD 0x5 0xd 0x1a), (0x0C2CE9A5, .fcmpSuneD 0x5 0xd 0x1a),
    (0x0D01E9B7, .fsel 0x17 0xd 0x1a 0x3), (0x153478B7, .lu12iW 0x17 0x9a3c5), (0x1D3478B7, .pcaddu12i 0x17 0x9a3c5),
    (0x20ACD5B7, .llW 0x17 0xd 0x2b35), (0x21ACD5B7, .scW 0x17 0xd 0x2b35)] : List (Nat × Instr)), decodeTableWord 32 q.1 = some q.2 := by decide +kernel

theorem test_words_7 : ∀ q ∈ ([
    (0x28294DB7, .ldB 0x17 0xd 0xa53), (0x28694DB7, .ldH 0x17 0xd 0xa53), (0x28A94DB7, .ldW 0x17 0xd 0xa53),
    (0x29294DB7, .stB 0x17 0xd 0xa53), (0x29694DB7, .stH 0x17 0xd 0xa53), (0x29A94DB7, .stW 0x17 0xd 0xa53),
    (0x2A294DB7, .ldBu 0x17 0xd 0xa53), (0x2A694DB7, .ldHu 0x17 0xd 0xa53), (0x2AE94DB1, .preld 0x11 0xd 0xa53),
    (0x2B294DB7, .fldS 0x17 0xd 0xa53), (0x2B694DB7, .fstS 0x17 0xd 0xa53), (0x2BA94DB7, .fldD 0x17 0xd 0xa53),
    (0x2BE94DB7, .fstD 0x17 0xd 0xa53), (0x38724C35, .dbar 0x4c35), (0x3872CC35, .ibar 0x4c35),
    (0x4A70D4D5, .bceqz 0x6 0x159c35), (0x4A70D5D5, .bcnez 0x6 0x159c35), (0x4E70D5B7, .jirl 0x17 0xd 0x9c35),
    (0x5270D6A5, .b 0x2a59c35), (0x5670D6A5, .bl 0x2a59c35), (0x5A70D5B7, .beq 0xd 0x17 0x9c35),
    (0x5E70D5B7, .bne 0xd 0x17 0x9c35), (0x6270D5B7, .blt 0xd 0x17 0x9c35), (0x6670D5B7, .bge 0xd 0x17 0x9c35),
    (0x6A70D5B7, .bltu 0xd 0x17 0x9c35), (0x6E70D5B7, .bgeu 0xd 0x17 0x9c35)] : List (Nat × Instr)), decodeTableWord 32 q.1 = some q.2 := by decide +kernel

/-! The same, one word of each format written bit by bit (R204), and words that are no instruction (R232, R233). -/

theorem test_bits_3R : decodeWord 0b00000000000101101_00010_00001_00011 = .error .undefined := by decide +kernel
theorem test_bits_sub : decodeWord 0b00000000000100010_00010_00001_00011 = .ok (.subW 3 1 2) := by decide +kernel
theorem test_bits_shift : decodeWord 0b00000000010001001_00100_00001_00011 = .ok (.srliW 3 1 4) := by decide +kernel
theorem test_bits_lu12i : decodeWord 0b0001010_00010010001101000101_00111 = .ok (.lu12iW 7 0x12345) := by decide +kernel
theorem test_bits_ll : decodeWord 0b00100000_00000000000010_00101_00100 = .ok (.llW 4 5 2) := by decide +kernel
theorem test_bits_jirl : decodeWord 0b010011_0000000000000010_00101_00001 = .ok (.jirl 1 5 2) := by decide +kernel
theorem test_bits_bl : decodeWord 0b010101_0000000001000000_0000000000 = .ok (.bl 0x40) := by decide +kernel
theorem test_bits_fmadd : decodeWord 0b000010000001_00100_00011_00010_00001 = .ok (.fmaddS 1 2 3 4) := by decide +kernel
theorem test_bits_fsel : decodeWord 0b00001101000000_000_00011_00010_00001 = .ok (.fsel 1 2 3 0) := by decide +kernel
theorem test_bits_fst_d : decodeWord 0b0010101111_111111111000_00011_00010 = .ok (.fstD 2 3 0xFF8) := by decide +kernel
theorem test_bits_movgr2fr : decodeWord 0b0000000100010100101001_00100_00001 = .ok (.movgr2frW 1 4) := by decide +kernel
theorem test_bits_csrxchg : decodeWord 0b00000100_00000000000000_00101_00100 = .ok (.csrxchg 4 5 0) := by decide +kernel
theorem test_bits_ertn : decodeWord 0b00000110010010000011100000000000 = .ok .ertn := by decide +kernel
theorem test_bits_dbar : decodeWord 0b00111000011100100_000000000000000 = .ok (.dbar 0) := by decide +kernel
theorem test_word_zero : decodeWord 0 = .error .undefined := by decide +kernel
theorem test_word_rdtime : decodeWord 0x00006021 = .error .rdtime := by decide +kernel
theorem test_reserved_ertn_bit : decodeWord 0x06483801 = .error .undefined := by decide +kernel

/-! Small states, and what one instruction leaves. -/

/-- `s` with some general registers set. -/
def regs (l : List (Reg × Word)) (s : State) : State := l.foldl (fun s p => gprSet p.1 p.2 s) s

/-- `s` with some floating-point registers set. -/
def fregs (l : List (FReg × DWord)) (s : State) : State := l.foldl (fun s p => fprSet p.1 p.2 s) s

/-- `s` with CRMD set. -/
def mode (crmd : Word) (s : State) : State := { s with csr := { s.csr with crmd := crmd } }

/-- `s` with pc set. -/
def at_ (pc : Word) (s : State) : State := { s with pc := pc }

/-- Something of the state an instruction leaves. -/
def after {α : Type} (i : Instr) (s : State) (f : State → α) : Option α :=
  match exec i s with
  | .next t => some (f t)
  | _ => none

/-- Why an instruction is refused. -/
def refusal (i : Instr) (s : State) : Option Refusal :=
  match exec i s with
  | .refused r => some r
  | _ => none

/-- A register after an instruction. -/
def gprAfter (i : Instr) (l : List (Reg × Word)) (r : Reg) : Option Word := after i (regs l .reset) (gprGet r)

/-- Direct mode, coherent cached (DATF = DATM = 1), PLV0, floating point enabled, LLbit set for address 0x2008; the bytes of
R321's example at 0x1000, and the word 7 at 0x2008. -/
def cached : State :=
  { mode 0xA8 .reset with
    csr := { (mode 0xA8 .reset).csr with euen := 1 }
    llbit := true
    lladdr := 0x2008
    mem := Memory.write (Memory.write [] 0x1000 0x81223344 4) 0x2008 7 4 }

/-- The same at PLV3. -/
def user : State := mode 0xAB cached

/-- Mapped mode at PLV0 with ASID 5: a 4 KB pair at 0x00402000 (R492's example, the odd page clean), a 4 MB pair at 0x40000000
whose even page is not valid, and a window 0x80000011 (R155's example). -/
def pages : List TlbEntry :=
  [⟨true, 5, false, 12, 0x201, ⟨true, true, 0, 1, 0x100⟩, ⟨true, false, 0, 1, 0x101⟩⟩,
   ⟨true, 0, true, 21, 0x20000, ⟨false, true, 3, 1, 0x200⟩, ⟨true, true, 3, 1, 0x400⟩⟩,
   .zero, .zero]

def mapped : State :=
  { mode 0x10 cached with tlb := pages, csr := { (mode 0x10 cached).csr with asid := 5, dmw0 := 0x80000011 } }

/-- RAM, ROM, a device and a hole. -/
def platform : State :=
  { cached with cfg := { Config.Params.standard with
      regions := [⟨0, 0x10000, .ram⟩, ⟨0x10000, 0x10000, .rom⟩, ⟨0x20000, 0x10000, .device⟩] } }

/-- ADD.W r3, r1, r2 is next, right after reset. -/
def ready : State := State.reset.withFetchWord 32 0x00100823

/-- A concrete step goes on. -/
def stepped (s : State) : Option State :=
  match step s with
  | .next t => some t
  | _ => none

theorem next_of_stepped {s : State} (h : (stepped s).isSome = true) : ∃ t, step s = .next t := by
  unfold stepped at h
  split at h
  · exact ⟨_, ‹_›⟩
  · simp at h

theorem next_of_after {i : Instr} {s : State} (h : (after i s (fun _ => ())).isSome = true) : ∃ t, exec i s = .next t := by
  unfold after at h
  split at h
  · exact ⟨_, ‹_›⟩
  · simp at h

/-! Integer instructions: the examples and corner cases of R251 to R280. -/

theorem test_add_compare_examples : ∀ q ∈ ([
    (.addW 3 1 2, [(1, 0xFFFFFFFF), (2, 2)], 3, 1), (.addW 3 1 2, [(1, 0x7FFFFFFF), (2, 1)], 3, 0x80000000),
    (.subW 3 1 2, [(1, 5), (2, 7)], 3, 0xFFFFFFFE), (.subW 3 0 2, [(2, 0x80000000)], 3, 0x80000000),
    (.addiW 4 0 0xFFF, [], 4, 0xFFFFFFFF), (.addiW 4 0 0x800, [], 4, 0xFFFFF800),
    (.lu12iW 7 0x12345, [], 7, 0x12345000), (.lu12iW 7 0xFFFFF, [], 7, 0xFFFFF000),
    (.slt 3 1 2, [(1, 0xFFFFFFFF), (2, 1)], 3, 1), (.slt 3 1 1, [(1, 5)], 3, 0),
    (.sltu 3 1 2, [(1, 0xFFFFFFFF), (2, 1)], 3, 0), (.sltu 3 1 2, [(1, 1), (2, 0xFFFFFFFF)], 3, 1),
    (.slti 3 1 0xFFF, [(1, 0x80000000)], 3, 1), (.slti 3 1 0xFFF, [], 3, 0),
    (.sltui 3 1 0xFFF, [(1, 5)], 3, 1), (.sltui 3 1 0xFFF, [(1, 0xFFFFFFFF)], 3, 0)] :
    List (Instr × List (Reg × Word) × Reg × Word)), gprAfter q.1 q.2.1 q.2.2.1 = some q.2.2.2 := by decide +kernel

theorem test_logic_examples : ∀ q ∈ ([
    (.and 3 1 2, [(1, 0xF0F0FF00), (2, 0x0FF0F0F0)], 3, 0x00F0F000), (.or 3 1 2, [(1, 0xF0F0FF00), (2, 0x0FF0F0F0)], 3, 0xFFF0FFF0),
    (.nor 3 1 2, [(1, 0xF0F0FF00), (2, 0x0FF0F0F0)], 3, 0x000F000F), (.xor 3 1 2, [(1, 0xF0F0FF00), (2, 0x0FF0F0F0)], 3, 0xFF000FF0),
    (.andi 3 1 0xFF, [(1, 0x12345678)], 3, 0x78), (.ori 7 7 0x678, [(7, 0x12345000)], 7, 0x12345678),
    (.xori 3 1 0xFFF, [(1, 0xF0F0)], 3, 0xFF0F), (.addW 0 1 1, [(1, 5)], 0, 0)] :
    List (Instr × List (Reg × Word) × Reg × Word)), gprAfter q.1 q.2.1 q.2.2.1 = some q.2.2.2 := by decide +kernel

theorem test_multiply_divide_examples : ∀ q ∈ ([
    (.mulW 3 1 2, [(1, 0x10000), (2, 0x10001)], 3, 0x10000), (.mulhW 3 1 2, [(1, 0x80000000), (2, 2)], 3, 0xFFFFFFFF),
    (.mulhWu 3 1 2, [(1, 0x80000000), (2, 2)], 3, 1),
    (.divW 3 1 2, [(1, 0x80000000), (2, 0xFFFFFFFF)], 3, 0x80000000), (.divW 3 1 2, [(1, 0xFFFFFFF9), (2, 2)], 3, 0xFFFFFFFD),
    (.modW 3 1 2, [(1, 0xFFFFFFF9), (2, 2)], 3, 0xFFFFFFFF), (.modW 3 1 2, [(1, 7), (2, 0xFFFFFFFE)], 3, 1),
    (.divWu 3 1 2, [(1, 0xFFFFFFFE), (2, 2)], 3, 0x7FFFFFFF), (.divWu 3 1 2, [(1, 0x80000000), (2, 0xFFFFFFFF)], 3, 0),
    (.modWu 3 1 2, [(1, 0xFFFFFFFF), (2, 16)], 3, 15), (.modWu 3 1 2, [(1, 0x80000000), (2, 0xFFFFFFFF)], 3, 0x80000000)] :
    List (Instr × List (Reg × Word) × Reg × Word)), gprAfter q.1 q.2.1 q.2.2.1 = some q.2.2.2 := by decide +kernel

theorem test_shift_examples : ∀ q ∈ ([
    (.sllW 3 1 2, [(1, 0x80000001), (2, 33)], 3, 2), (.srlW 3 1 2, [(1, 0x80000000), (2, 31)], 3, 1),
    (.sraW 3 1 2, [(1, 0x80000000), (2, 31)], 3, 0xFFFFFFFF), (.sraW 3 1 2, [(1, 0x7FFFFFFF), (2, 31)], 3, 0),
    (.slliW 3 1 4, [(1, 0xF0000001)], 3, 0x10), (.srliW 3 1 4, [(1, 0xF0000001)], 3, 0x0F000000),
    (.sraiW 3 1 4, [(1, 0xF0000001)], 3, 0xFF000000)] :
    List (Instr × List (Reg × Word) × Reg × Word)), gprAfter q.1 q.2.1 q.2.2.1 = some q.2.2.2 := by decide +kernel

/-! Branches: the examples of R301 to R311 and R259, as pc and r1 and r5 after. -/

def pcAfter (i : Instr) (pc : Word) (l : List (Reg × Word)) : Option Word := after i (at_ pc (regs l .reset)) State.pc

theorem test_branch_examples : ∀ q ∈ ([
    (.beq 1 2 4, 0x1000, [(1, 7), (2, 7)], 0x1010), (.beq 1 2 4, 0x1000, [(1, 7), (2, 8)], 0x1004),
    (.bne 1 0 0xFFFE, 0x1010, [(1, 3)], 0x1008), (.bne 1 0 0xFFFE, 0x1010, [], 0x1014),
    (.blt 1 2 2, 0x2000, [(1, 0xFFFFFFFF)], 0x2008), (.bge 1 2 2, 0x2000, [(1, 0xFFFFFFFF)], 0x2004),
    (.bltu 1 2 2, 0x2000, [(1, 0xFFFFFFFF)], 0x2004), (.bgeu 1 2 2, 0x2000, [(1, 0xFFFFFFFF)], 0x2008),
    (.b 0x3FFFFFF, 0x1C000010, [], 0x1C00000C), (.b 0x40000, 0x1C000000, [], 0x1C100000),
    (.bl 0x40, 0x1C000020, [], 0x1C000120), (.jirl 1 5 2, 0x1C000100, [(5, 0x1C002000)], 0x1C002008),
    (.beq 0 0 0x8000, 0x1000, [], 0xFFFE1000)] :
    List (Instr × Word × List (Reg × Word) × Word)), pcAfter q.1 q.2.1 q.2.2.1 = some q.2.2.2 := by decide +kernel

theorem test_bl_link : after (.bl 0x40) (at_ 0xFFFFFFFC .reset) (gprGet 1) = some 0 := by decide +kernel
theorem test_jirl_link_same_register :
    after (.jirl 5 5 2) (at_ 0x1C000100 (regs [(5, 0x1C002000)] .reset)) (fun t => (gprGet 5 t, t.pc)) =
      some (0x1C000104, 0x1C002008) := by decide +kernel
theorem test_pcaddu12i : after (.pcaddu12i 5 1) (at_ 0x1C000010 .reset) (gprGet 5) = some 0x1C001010 := by decide +kernel
theorem test_pcaddu12i_wraps : after (.pcaddu12i 5 1) (at_ 0xFFFFF000 .reset) (gprGet 5) = some 0 := by decide +kernel
theorem test_bceqz : after (.bceqz 1 0x1FFFFF) (at_ 0x1000 cached) State.pc = some 0xFFC := by decide +kernel
theorem test_bcnez : after (.bcnez 0 2) (at_ 0x1000 (cfSet 0 true cached)) State.pc = some 0x1008 := by decide +kernel

/-! Memory: the examples of R321 to R328, R335 and R336. -/

theorem test_load_examples : ∀ q ∈ ([(.ldB 5 6 3, 0xFFFFFF81), (.ldH 5 6 2, 0xFFFF8122), (.ldW 5 6 0, 0x81223344),
    (.ldBu 5 6 3, 0x81), (.ldHu 5 6 2, 0x8122), (.ldW 5 6 0xFFC, 0)] : List (Instr × Word)),
    after q.1 (regs [(6, 0x1000)] cached) (gprGet 5) = some q.2 := by decide +kernel

theorem test_misaligned_load : after (.ldH 5 6 1) (regs [(6, 0x1000)] cached)
    (fun t => (t.csr.badv, t.csr.estat, gprGet 5 t)) = some (0x1001, 0x90000, 0) := by decide +kernel

theorem test_store_examples : ∀ q ∈ ([(.stB 5 6 1, 0x8122AB44), (.stH 5 6 2, 0x56AB3344), (.stW 5 6 0, 0x123456AB)] :
    List (Instr × Word)),
    after q.1 (regs [(5, 0x123456AB), (6, 0x1000)] cached) (fun t => t.mem.word 0x1000) = some q.2 := by decide +kernel

theorem test_ll : after (.llW 4 5 2) { regs [(5, 0x2000)] cached with llbit := false, lladdr := 0 }
    (fun t => (gprGet 4 t, t.llbit, t.lladdr)) = some (7, true, 0x2008) := by decide +kernel
theorem test_sc : after (.scW 4 5 2) (regs [(4, 9), (5, 0x2000)] cached)
    (fun t => (gprGet 4 t, t.mem.word 0x2008, t.llbit)) = some (1, 9, false) := by decide +kernel
theorem test_sc_fails : after (.scW 4 5 2) { regs [(4, 9), (5, 0x2000)] cached with llbit := false }
    (fun t => (gprGet 4 t, t.mem.word 0x2008)) = some (0, 7) := by decide +kernel
theorem test_sc_fails_where_nothing_is : after (.scW 4 5 0) { regs [(4, 9), (5, 0x30000)] platform with llbit := false }
    (fun t => (gprGet 4 t, t.pc)) = some (0, 0x1C000004) := by decide +kernel
theorem test_load_where_nothing_is : refusal (.ldW 4 5 0) (regs [(5, 0x30000)] platform) = some (.nothingAtAddress 0x30000) := by
  decide +kernel
theorem test_hints : ∀ i ∈ [Instr.preld 0 6 64, .dbar 0, .ibar 0],
    after i cached (fun t => (t.pc, t.mem, t.gpr)) = some (0x1C000004, cached.mem, cached.gpr) := by decide +kernel

/-! Traps, counters (R350 to R354) and the privileged instructions (R480 to R500). -/

theorem test_syscall : after (.syscall 0) { mode 0xAF cached with pc := 0x10040, csr := { (mode 0xAF cached).csr with eentry := 0x8000 } }
    (fun t => (t.csr.prmd, t.csr.crmd, t.csr.estat, t.csr.era, t.pc)) = some (7, 0xA8, 0xB0000, 0x10040, 0x8000) := by decide +kernel
theorem test_break : after (.brk 5) cached (fun t => (t.csr.estat, t.csr.era)) = some (0xC0000, 0x1C000000) := by decide +kernel
theorem test_counter : after (.rdcntvlW 4) { user with counter := 0x0000000123456789 } (gprGet 4) = some 0x23456789 := by decide +kernel
theorem test_counter_high : after (.rdcntvhW 4) { user with counter := 0x0000000123456789 } (gprGet 4) = some 1 := by decide +kernel
theorem test_counter_id : after (.rdcntid 5) { user with csr := { user.csr with tid := 3 } } (gprGet 5) = some 3 := by decide +kernel
theorem test_csrrd_asid : after (.csrrd 4 0x18) { State.reset with csr := { State.reset.csr with asid := 5 } } (gprGet 4) = some 0xA0005 := by
  decide +kernel
theorem test_csrrd_undefined_number : after (.csrrd 4 0x3) (regs [(4, 7)] .reset) (gprGet 4) = some 0 := by decide +kernel
theorem test_csrwr_eentry : after (.csrwr 5 0xC) (regs [(5, 0x1C001234)] { cached with csr := { cached.csr with eentry := 0x1C008000 } })
    (fun t => (t.csr.eentry, gprGet 5 t)) = some (0x1C001200, 0x1C008000) := by decide +kernel
theorem test_csrwr_estat : after (.csrwr 4 0x5) (regs [(4, 0xFFFFFFFF)] .reset) (fun t => (t.csr.estat, gprGet 4 t)) = some (3, 0) := by
  decide +kernel
theorem test_csrxchg : after (.csrxchg 4 5 0) (regs [(4, 0x10), (5, 0x18)] .reset) (fun t => (t.csr.crmd, gprGet 4 t)) =
    some (0x10, 8) := by decide +kernel
theorem test_ertn : after .ertn { mode 0xB0 cached with csr := { (mode 0xB0 cached).csr with prmd := 7, era := 0x10044, estat := 0xB0000 } }
    (fun t => (t.csr.crmd, t.llbit, t.pc)) = some (0xB7, false, 0x10044) := by decide +kernel
theorem test_ertn_refill : after .ertn { cached with csr := { cached.csr with prmd := 7, estat := 0x3F0000 } }
    (fun t => t.csr.crmd) = some 0xB7 := by decide +kernel
theorem test_privileged_at_user_level : ∀ i ∈ [Instr.csrrd 4 0, .csrwr 4 0, .csrxchg 4 5 0, .tlbsrch, .tlbrd, .tlbwr, .tlbfill, .ertn,
    .idle 0, .cacop 0 4 0, .invtlb 0 0 0], after i user (fun t => t.csr.estat) = some 0xE0000 := by decide +kernel
theorem test_idle : after (.idle 0) cached (fun t => (t.pc, t.waiting)) = some (0x1C000004, true) := by decide +kernel
theorem test_idle_wakes_at_once : after (.idle 0) { cached with csr := { cached.csr with estat := 1, ecfg := 1 } }
    (fun t => (t.pc, t.waiting)) = some (0x1C000004, false) := by decide +kernel
theorem test_invtlb_reserved_op : after (.invtlb 7 0 0) user (fun t => t.csr.estat) = some 0xD0000 := by decide +kernel
theorem test_cacop_hit_at_user_level : after (.cacop 0x10 4 0) user State.pc = some 0x1C000004 := by decide +kernel
theorem test_cacop_other_line_keeps_stage :
    after (.cacop 0x11 4 0) (regs [(4, 0x40)] { cached with stale := [⟨0x7C, 1, .stored⟩, ⟨0x80, 1, .stored⟩] })
      (fun t => t.stale.map StaleWord.stage) = some [.writtenBack, .stored] := by decide +kernel
theorem test_cacop_hit_refill : after (.cacop 0x10 4 0) (regs [(4, 0x1234)] (mode 0x13 mapped)) (fun t => (t.csr.estat, t.csr.badv)) =
    some (0x3F0000, 0x1234) := by decide +kernel

/-! The TLB: the examples of R490, R491, R492 and R494. -/

theorem test_tlbsrch : after .tlbsrch { mapped with csr := { mapped.csr with tlbehi := 0x402000, tlbidx := 0x80000003 } }
    (fun t => t.csr.tlbidx) = some 0 := by decide +kernel
theorem test_tlbsrch_none : after .tlbsrch { mapped with csr := { mapped.csr with tlbehi := 0x402000, asid := 6 } }
    (fun t => t.csr.tlbidx) = some 0x80000000 := by decide +kernel
theorem test_tlbrd : after .tlbrd
    { mapped with tlb := [⟨true, 5, true, 12, 0x201, ⟨true, true, 0, 1, 0x100⟩, .zero⟩], csr := { mapped.csr with asid := 0 } }
    (fun t => (t.csr.tlbehi, t.csr.tlbelo0, t.csr.tlbelo1, t.csr.tlbidx, t.csr.asid)) =
      some (0x402000, 0x10053, 0x40, 0x0C000000, 5) := by decide +kernel
theorem test_tlbwr : after .tlbwr { mapped with csr := { mapped.csr with
      tlbidx := 0x0C000003, tlbehi := 0x402000, tlbelo0 := 0x10013, tlbelo1 := 0x10113 } } (fun t => t.tlb[3]?) =
    some (some ⟨true, 5, false, 12, 0x201, ⟨true, true, 0, 1, 0x100⟩, ⟨true, true, 0, 1, 0x101⟩⟩) := by decide +kernel
theorem test_tlb_load_address : translate .load 0x00402ABC mapped = .ok ⟨0x00100ABC, 1⟩ := by decide +kernel
theorem test_window : translate .load 0x9FFFFFFF mapped = .ok ⟨0x1FFFFFFF, 1⟩ := by decide +kernel
theorem test_invtlb : after (.invtlb 5 4 5) (regs [(4, 5), (5, 0x00402000)] mapped) (fun t => t.tlb.map TlbEntry.e) =
    some [false, true, false, false] := by decide +kernel

/-! Floating point: the examples of R375 to R415 and R421 to R452, as results and exceptions. -/

/-- What an operation reads, in a rounding mode. -/
def env (rm : BitVec 2) : FpEnv := ⟨.ofBits rm, false, false, false⟩

theorem test_fadd_examples : fpAdd fp32 (env 0) 0x3F800000 0x40000000 = ⟨0x40400000, 0⟩ ∧
    fpAdd fp32 (env 2) 0x3F800000 0x33800000 = ⟨0x3F800001, 1⟩ ∧ fpAdd fp32 (env 0) 0x7F800000 0xFF800000 = ⟨0x7FC00000, 0x10⟩ ∧
    fpAdd fp64 (env 0) 0x3FF0000000000000 0x3CA0000000000000 = ⟨0x3FF0000000000000, 1⟩ ∧
    fpSub fp32 (env 0) 0x40400000 0x3F800000 = ⟨0x40000000, 0⟩ := by decide +kernel
theorem test_fmul_examples : fpMul fp32 (env 0) 0x7F7FFFFF 0x40000000 = ⟨0x7F800000, 5⟩ ∧
    fpMul fp32 (env 1) 0x7F7FFFFF 0x40000000 = ⟨0x7F7FFFFF, 5⟩ ∧ fpMul fp32 (env 0) 0x00800000 0x3F000000 = ⟨0x00400000, 0⟩ ∧
    fpMul fp32 { env 0 with trapU := true } 0x00800000 0x3F000000 = ⟨0x00400000, 2⟩ := by decide +kernel
theorem test_fdiv_examples : fpDiv fp32 (env 0) 0x3F800000 0x40400000 = ⟨0x3EAAAAAB, 1⟩ ∧
    fpDiv fp32 (env 3) 0x3F800000 0x40400000 = ⟨0x3EAAAAAA, 1⟩ ∧ fpDiv fp32 (env 0) 0xBF800000 0 = ⟨0xFF800000, 8⟩ ∧
    fpDiv fp32 (env 0) 0 0 = ⟨0x7FC00000, 0x10⟩ ∧ fpDiv fp32 (env 0) 0x00800000 0x40400000 = ⟨0x002AAAAB, 3⟩ := by decide +kernel
theorem test_fused_examples : fpFma fp32 (env 0) 0x3F800800 0x3F800800 0xBF801000 = ⟨0x33800000, 0⟩ ∧
    fpFms fp32 (env 3) 0x3FC00000 0x3FC00000 0x40100000 = ⟨0x80000000, 0⟩ ∧
    negatedResult (fpFma fp32 (env 0) 0x3F800000 0x40000000 0x40400000) = ⟨0xC0A00000, 0⟩ ∧
    negatedResult (fpFms fp32 (env 0) 0x3F800000 0x40000000 0x40400000) = ⟨0x3F800000, 0⟩ := by decide +kernel
theorem test_max_min_examples : fpMaxMin fp32 (env 0) .gt 0x3F800000 0x40000000 = ⟨0x40000000, 0⟩ ∧
    fpMaxMin fp32 (env 0) .gt 0x7FC00000 0x3F800000 = ⟨0x3F800000, 0⟩ ∧ fpMaxMin fp32 (env 0) .gt 0x7F800001 0x3F800000 = ⟨0x7FC00001, 0x10⟩ ∧
    fpMaxMin fp32 (env 0) .lt 0x3F800000 0xC0000000 = ⟨0xC0000000, 0⟩ ∧ fpMaxMinMag fp32 (env 0) .gt 0xC0000000 0x40000000 = ⟨0x40000000, 0⟩ ∧
    fpMaxMinMag fp32 (env 0) .lt 0xC0400000 0x40000000 = ⟨0x40000000, 0⟩ := by decide +kernel
theorem test_root_examples : fpSqrt fp32 (env 0) 0x40800000 = ⟨0x40000000, 0⟩ ∧ fpSqrt fp32 (env 0) 0x40000000 = ⟨0x3FB504F3, 1⟩ ∧
    fpSqrt fp32 (env 0) 0xBF800000 = ⟨0x7FC00000, 0x10⟩ ∧ fpRecip fp32 (env 0) 0x40800000 = ⟨0x3E800000, 0⟩ ∧
    fpRecip fp32 (env 0) 0x40400000 = ⟨0x3EAAAAAB, 1⟩ ∧ fpRsqrt true fp32 (env 0) 0x40800000 = ⟨0x3F000000, 0⟩ := by decide +kernel
theorem test_convert_examples : fpConvert fp64 fp32 (env 0) 0x3FB999999999999A = ⟨0x3DCCCCCD, 1⟩ ∧
    fpConvert fp64 fp32 (env 1) 0x483D6329F1C35CA5 = ⟨0x7F7FFFFF, 5⟩ ∧ fpConvert fp64 fp32 (env 2) 0x358DEE7A4AD4B81F = ⟨1, 3⟩ ∧
    fpConvert fp32 fp64 (env 0) 0x00000001 = ⟨0x36A0000000000000, 0⟩ ∧ fpFromInt fp32 (env 2) 0x01000001 = ⟨0x4B800001, 1⟩ ∧
    fpFromInt fp64 (env 0) 0x01000001 = ⟨0x4170000010000000, 0⟩ := by decide +kernel
theorem test_to_word_examples : toWordS 0 0x40200000 = ⟨2, 1⟩ ∧ toWordS 2 0x40200000 = ⟨3, 1⟩ ∧ toWordS 3 0xC0200000 = ⟨0xFFFFFFFD, 1⟩ ∧
    toWordS 0 0xCF000000 = ⟨0x80000000, 0⟩ ∧ toWordD 1 0x41DFFFFFFFE00000 = ⟨0x7FFFFFFF, 1⟩ ∧
    toSint32 (f := fp32) .nearestEven 0x4F000000 = none ∧ toSint32 (f := fp64) .towardPositive 0x41DFFFFFFFE00000 = none := by decide +kernel

theorem test_fadd_s_executes : ∃ t, exec (.faddS 1 2 3) (fregs [(2, 0x3F800000), (3, 0x40000000)] cached) = .next t ∧
    fprGetW 1 t = 0x40400000 ∧ t.fcsr0 = 0 := by
  refine ⟨_, rfl, ?_, by decide +kernel⟩
  rw [fprGetW_advance, fprGetW_fprSetW_self]
  decide +kernel
theorem test_fdiv_d_executes : after (.fdivD 1 2 3) (fregs [(2, 0x3FF0000000000000)] cached)
    (fun t => (fprGet 1 t, t.fcsr0)) = some (0x7FF0000000000000, 0x08080000) := by decide +kernel
theorem test_fdiv_d_traps : after (.fdivD 1 2 3) { fregs [(2, 0x3FF0000000000000)] cached with fcsr0 := 8 }
    (fun t => (fprGet 1 t, t.fcsr0, t.csr.estat)) = some (0, 0x08000008, 0x120000) := by decide +kernel
theorem test_fcmp_examples : ∀ q ∈ ([(.fcmpCltS 0 1 2, true), (.fcmpCleS 0 1 2, true), (.fcmpCeqS 0 1 2, false), (.fcmpCneS 0 1 2, true),
    (.fcmpCorS 0 1 2, true), (.fcmpCunS 0 1 2, false), (.fcmpCuneS 0 1 2, true), (.fcmpCunS 0 3 1, true), (.fcmpCeqS 0 3 1, false),
    (.fcmpCueqS 0 3 1, true), (.fcmpCneS 0 3 1, false), (.fcmpCorS 0 3 1, false), (.fcmpCuneS 0 3 1, true), (.fcmpCeqS 0 4 5, true),
    (.fcmpCltS 0 4 5, false)] : List (Instr × Bool)),
    after q.1 (fregs [(1, 0x3F800000), (2, 0x40000000), (3, 0x7FC00000), (5, 0x80000000)] cached) (fun t => (cfGet 0 t, t.fcsr0)) =
      some (q.2, 0) := by decide +kernel
theorem test_fcmp_signals : after (.fcmpSeqS 0 3 1) (fregs [(1, 0x3F800000), (3, 0x7FC00000)] cached)
    (fun t => (cfGet 0 t, t.fcsr0)) = some (false, 0x10100000) := by decide +kernel
theorem test_class_examples : classBit (f := fp32) 0x3F800000 = 7 ∧ classBit (f := fp32) 0x80000000 = 5 ∧ classBit (f := fp32) 1 = 8 ∧
    classBit (f := fp32) 0x7F800001 = 0 ∧ classBit (f := fp32) 0xFFC00000 = 1 ∧ classBit (f := fp64) 0xFFF0000000000000 = 2 := by decide +kernel
theorem test_sign_examples : magnitudeOf (f := fp32) 0xFF800001 = 0x7F800001 ∧ negated (f := fp32) 0 = 0x80000000 ∧
    fpCopySign (f := fp32) 0x3F800000 0x80000000 = 0xBF800000 := by decide +kernel
theorem test_moves : after (.movgr2fcsr 0 4) (regs [(4, 0xFFFFFFFF)] cached) State.fcsr0 = some 0x1F1F031F ∧
    after (.movfcsr2gr 5 2) { cached with fcsr0 := 0x01010301 } (gprGet 5) = some 0x01010000 ∧
    after (.fsel 1 2 3 0) (cfSet 0 true (fregs [(3, 9)] cached)) (fprGet 1) = some 9 ∧
    after (.movgr2frhW 1 4) (regs [(4, 5)] (fregs [(1, 7)] cached)) (fprGet 1) = some 0x0000000500000007 ∧
    after (.movgr2cf 1 4) (regs [(4, 3)] cached) (cfGet 1) = some true ∧
    after (.movcf2gr 4 1) (cfSet 1 true cached) (gprGet 4) = some 1 := by decide +kernel
theorem test_fld_fst_d : after (.fldD 1 4 0) (regs [(4, 0x1000)] cached) (fprGet 1) = some 0x81223344 ∧
    after (.fstD 2 3 0xFF8) (regs [(3, 0x1010)] (fregs [(2, 0x1122334455667788)] cached)) (fun t => t.mem.read 0x1008 8) =
      some 0x1122334455667788 := by decide +kernel
theorem test_float_disabled : after (.faddS 1 2 3) State.reset (fun t => t.csr.estat) = some 0xF0000 := by decide +kernel

/-! The step: fetch, interrupts, the timer (R550, R572, R582). -/

theorem test_step_runs_placed_word : (stepped (regs [(1, 5), (2, 6)] ready)).map (fun t => (gprGet 3 t, t.pc)) =
    some (11, 0x1C000004) := by decide +kernel
theorem test_reset_memory_is_no_instruction : (stepped .reset).map (fun t => (t.csr.estat, t.csr.era)) =
    some (0xD0000, 0x1C000000) := by decide +kernel
theorem test_misaligned_pc : (stepped (at_ 0x1002 ready)).map (fun t => (t.csr.estat, t.csr.badv)) = some (0x80000, 0x1002) := by
  decide +kernel
theorem test_interrupt_taken : (stepped { mode 0xC ready with csr := { (mode 0xC ready).csr with estat := 1, ecfg := 1 } }).map
    (fun t => (t.csr.estat, t.csr.era, t.csr.prmd, t.csr.crmd)) = some (1, 0x1C000000, 4, 8) := by decide +kernel
theorem test_timer_expires : (tick { cached with timerRun := true, csr := { cached.csr with tcfg := 0xB } }).csr.estat = 0x800 ∧
    (tick { cached with timerRun := true, csr := { cached.csr with tcfg := 0xB } }).timerVal = 8 := by decide +kernel

/-! Witnesses: for each statement with hypotheses (Certificates/Slice0/Obligations.lean), states and operands that meet them,
clause by clause, at boundary values where a clause has a range. -/

theorem witness_DecodeOfEncode : (Instr.rdcntid 1).wellFormed = true ∧ (Instr.csrxchg 4 2 0x3FFF).wellFormed = true := by decide

theorem witness_EncodeOfDecode : decodeWord 0x00100823 = .ok (.addW 3 1 2) := by decide +kernel

theorem witness_WordsOfNoInstruction : (1 : Reg) ≠ 0 ∧
    (0x12 : BitVec 5) ∈ [0x12, 0x13, 0x16, 0x17, 0x1A, 0x1B, 0x1C, 0x1D, 0x1E, (0x1F : BitVec 5)] ∧ 2 ≤ (2 : BitVec 2).toNat := by decide

/-- What the statements about a fetch ask of the state after the boundary and of the step's input. -/
def fetches (s : State) : Bool :=
  legalLevel (boundary s) && legalMode (boundary s) && (!(boundary s).waiting || pendingVector (boundary s) != 0) &&
  (!interruptPending (boundary s) || (nextInput s).deferInterrupt)

theorem fetches_iff (s : State) : fetches s = true ↔ (boundary s).defined ∧
    ((boundary s).waiting = true → pendingVector (boundary s) ≠ 0) ∧
    (interruptPending (boundary s) = true → (nextInput s).deferInterrupt = true) := by
  unfold fetches
  cases (boundary s).waiting <;> cases interruptPending (boundary s) <;> simp [and_assoc]

/-- An input that puts interrupts off, shows the first older word, and lets another agent store 0x6F at 0x40. -/
def deferring : StepInput := ⟨0, 1, false, true, 1, [⟨0x42, .word, 0x1122336F⟩], true⟩

/-- `ready` woken by a pending interrupt that is put off, its first word overwritten, the older one still seen. -/
def woken : State :=
  { mode 0xC ready with
    csr := { (mode 0xC ready).csr with ecfg := 4 }
    waiting := true
    inputs := [deferring]
    mem := []
    stale := [⟨0x1C000000, 0x00100823, .invalidated⟩] }

theorem witness_StepRunsDecodedInstruction : fetches ready = true ∧ fetches woken = true ∧
    (boundary woken).waiting = true ∧ interruptPending (boundary woken) = true ∧
    fetchPlace (boundary ready) = .ok ⟨⟨0x1C000000, 0⟩, .ram⟩ ∧ fetchPlace (boundary woken) = .ok ⟨⟨0x1C000000, 0⟩, .ram⟩ ∧
    (nextInput ready).staleChoice = 0 ∧
    decode [(boundary ready).mem.byte 0x1C000000, (boundary ready).mem.byte 0x1C000001, (boundary ready).mem.byte 0x1C000002,
      (boundary ready).mem.byte 0x1C000003] = .ok (.addW 3 1 2, []) ∧
    decodeWord (seenWord (nextInput woken).staleChoice 0x1C000000 (boundary woken)) = .ok (.addW 3 1 2) ∧
    (⟨0x1C000000, 0x00100823, .invalidated⟩ : StaleWord) ∈ woken.stale := by decide +kernel

theorem witness_BoundaryFrame : State.reset.mem.wf ∧ regionKind (AgentStore.pa ⟨0xFFFFFFFFF, .word, 1⟩) .reset = .ram ∧
    regionKind (AgentStore.pa ⟨0x43, .halfword, 1⟩) .reset = .ram ∧ regionKind (AgentStore.pa ⟨0x43, .byte, 1⟩) .reset = .ram ∧
    regionKind (AgentStore.pa ⟨0x1000000000, .byte, 1⟩) .reset ≠ .ram ∧ 0x40 % 4 = 0 ∧
    AgentStore.pa ⟨0x43, .halfword, 1⟩ / 4 * 4 = 0x40 ∧ AgentStore.pa ⟨0x2009, .byte, 1⟩ / 4 = cached.lladdr / 4 ∧
    regionKind (AgentStore.pa ⟨0x20006, .byte, 1⟩) platform = .device := by decide +kernel

/-- Another agent's store and a lost reservation arrive at the boundary (R337). -/
theorem test_boundary_agents : (boundary { woken with llbit := true, lladdr := 0x80 }).llbit = false ∧
    (boundary woken).mem.byte 0x40 = 0x6F := by decide +kernel

/-- `cached` with an older word in each stage. -/
def withOlder : State := { cached with stale := [⟨0x40, 1, .invalidated⟩, ⟨0x44, 1, .stored⟩, ⟨0x48, 1, .writtenBack⟩] }

/-- A halfword lands on its natural boundary, the low byte lower (R132, R138). -/
theorem test_agent_halfword : (agentStore ⟨0x43, .halfword, 0xAABB⟩ .reset).mem = [(0x42, 0xBB), (0x43, 0xAA)] := by
  decide +kernel

/-- After another agent's store of a word a fetch sees the whole word before it or after it (R138, D41). -/
theorem test_agent_word_whole : fetchCandidates 0x1C000000 (agentStore ⟨0x1C000000, .word, 0x00111024⟩ ready) =
    [0x00111024, 0x00100823] := by decide +kernel

/-- A reservation on a device word ends when another agent stores there, and SC.W then stores nothing (R337, R339). -/
theorem test_agent_device_reservation :
    (let s := agentStore ⟨0x20006, .byte, 1⟩ { regs [(4, 9), (6, 0x20004)] platform with llbit := true, lladdr := 0x20004 }
    (s.llbit, after (.scW 4 6 0) s fun t => (gprGet 4 t, t.io))) = (false, some (0, [])) := by decide +kernel

/-- A word this core wrote through its data cache and another agent then wrote needs no CACOP: IBAR ends its older words, and
those of no other word (R186, R622). -/
theorem test_agent_settles_word : after (.ibar 0) (agentStore ⟨0x45, .byte, 7⟩ withOlder) (fun t => t.stale) =
    some [⟨0x48, 1, .writtenBack⟩] := by decide +kernel

theorem witness_InvariantKept : ready.Inv ∧ ∃ t, step ready = .next t :=
  ⟨by decide +kernel, next_of_stepped (by decide +kernel)⟩

/-- A state before reset that meets ResetSatisfiesInvariant's hypotheses, and one whose implementation does not reset its TLB. -/
theorem witness_ResetSatisfiesInvariant : ∀ u ∈ [State.zero, { State.zero with cfg := { State.zero.cfg with tlbReset := false } }],
    u.cfg.wf = true ∧ u.mem.wf ∧ onlyBits u.timerVal (lowMask u.cfg.timerN) ∧ u.tlb.length = u.cfg.tlbEntries ∧ u.tlbSupported := by
  decide +kernel

theorem witness_ParametersKept : ∃ t, step ready = .next t := next_of_stepped (by decide +kernel)

theorem witness_ResetState : State.zero.cfg.absentCsrs = [] := rfl

theorem witness_DivideResult : gprGet 1 (regs [(1, 5)] .reset) ≠ 0 ∧ gprGet 1 .reset = 0 := by decide

theorem witness_ConditionalBranchResult : floatReady false cached := by decide +kernel

theorem witness_LoadResult :
    locate .load 1 (address12 6 0xFFF (regs [(6, 0x1000)] cached)) (regs [(6, 0x1000)] cached) = .ok ⟨⟨0xFFF, 1⟩, .ram⟩ ∧
    locate .load 2 (address12 6 0x7FE (regs [(6, 0x1000)] cached)) (regs [(6, 0x1000)] cached) = .ok ⟨⟨0x17FE, 1⟩, .ram⟩ ∧
    locate .load 4 (address12 0 0xFFC cached) cached = .ok ⟨⟨0xFFFFFFFC, 1⟩, .ram⟩ := by decide +kernel

theorem witness_StoreResult : cached.mem.wf ∧ locate .store 1 (address12 0 0xFFF cached) cached = .ok ⟨⟨0xFFFFFFFF, 1⟩, .ram⟩ ∧
    locate .store 2 (address12 0 0xFFE cached) cached = .ok ⟨⟨0xFFFFFFFE, 1⟩, .ram⟩ ∧
    locate .store 4 (address12 0 0 cached) cached = .ok ⟨⟨0, 1⟩, .ram⟩ ∧ (8 : Nat) ∈ [1, 2, 4, 8] ∧ 8 % 8 = 0 := by decide +kernel

/-- r6 points at the device, r7 at ROM, r8 where nothing is. -/
def atDevice : State := regs [(6, 0x20000), (7, 0x10000), (8, 0x30000)] platform

theorem witness_DeviceAccess : floatReady true atDevice ∧
    locate .load 1 (address12 6 3 atDevice) atDevice = .ok ⟨⟨0x20003, 1⟩, .device⟩ ∧
    locate .load 8 (address12 6 8 atDevice) atDevice = .ok ⟨⟨0x20008, 1⟩, .device⟩ ∧
    locate .load 4 (address12 6 0 atDevice) atDevice = .ok ⟨⟨0x20000, 1⟩, .device⟩ ∧
    locate .load 2 (address12 6 2 atDevice) atDevice = .ok ⟨⟨0x20002, 1⟩, .device⟩ ∧
    locate .store 1 (address12 6 3 atDevice) atDevice = .ok ⟨⟨0x20003, 1⟩, .device⟩ ∧
    locate .store 2 (address12 6 2 atDevice) atDevice = .ok ⟨⟨0x20002, 1⟩, .device⟩ ∧
    locate .store 4 (address12 6 0 atDevice) atDevice = .ok ⟨⟨0x20000, 1⟩, .device⟩ ∧
    locate .store 8 (address12 6 8 atDevice) atDevice = .ok ⟨⟨0x20008, 1⟩, .device⟩ ∧
    locate .store 4 (address12 7 0 atDevice) atDevice = .ok ⟨⟨0x10000, 1⟩, .rom⟩ ∧
    locate .store 8 (address12 7 0 atDevice) atDevice = .ok ⟨⟨0x10000, 1⟩, .rom⟩ := by decide +kernel

theorem witness_AccessException : floatReady true mapped ∧
    (address12 0 1 mapped).toNat % 2 ≠ 0 ∧ (address12 0 3 mapped).toNat % 4 ≠ 0 ∧ (address12 0 4 mapped).toNat % 8 ≠ 0 ∧
    (address14 6 0 (regs [(6, 2)] mapped)).toNat % 4 ≠ 0 ∧
    (address12 0 0 mapped).toNat % 8 = 0 ∧ translate .load (address12 0 0 mapped) mapped = .raise .TLBR 0 ∧
    translate .store (address14 6 0 (regs [(6, 0x00403000)] mapped)) (regs [(6, 0x00403000)] mapped) = .raise .PME 0x00403000 ∧
    translate .load 0 (mode 0x18 cached) = .refuse .illegalTranslationMode ∧
    translate .store 0 (mode 0x108 cached) = .ok ⟨0, 2⟩ ∧ translate .load 0 (mode 0x188 cached) = .ok ⟨0, 3⟩ ∧
    translate .load (address12 6 0 (regs [(6, 0x30000)] platform)) (regs [(6, 0x30000)] platform) = .ok ⟨0x30000, 1⟩ ∧
    regionKind 0x30000 platform = .nothing ∧ Instr.ldB 5 6 0 ≠ .llW 5 6 0 ∧ Instr.ldB 5 6 0 ≠ .scW 5 6 0 := by decide +kernel

theorem witness_HintsAndBarriers : ∀ w ∈ withOlder.stale, w.addr = 0x40 → w.stage = .invalidated := by decide

/-- IBAR alone ends no word that a cache may still hold (R185). -/
theorem test_ibar_keeps : after (.ibar 0) withOlder (fun t => t.stale) =
    some [⟨0x44, 1, .stored⟩, ⟨0x48, 1, .writtenBack⟩] := by decide +kernel

theorem witness_ReservationPairResult_load : cached.mem.wf ∧ atDevice.mem.wf ∧
    resolve .load 4 (address14 0 0x2000 cached) cached = .ok ⟨0xFFFF8000, 1⟩ ∧ regionKind 0xFFFF8000 cached = .ram ∧
    resolve .load 4 (address14 6 0 atDevice) atDevice = .ok ⟨0x20000, 1⟩ ∧ regionKind 0x20000 atDevice = .device ∧
    resolve .load 4 (address14 7 0 atDevice) atDevice = .ok ⟨0x10000, 1⟩ ∧ regionKind 0x10000 atDevice = .rom ∧
    resolve .load 4 (address14 8 0 atDevice) atDevice = .ok ⟨0x30000, 1⟩ ∧
    resolve .load 4 (address14 0 0 .reset) .reset = .ok ⟨0, 0⟩ := by decide +kernel

/-- SC.W's check of the address, under each implementation. -/
def checking (c : Config.ScAddrCheck) : State := { cached with cfg := { platform.cfg with scAddrCheck := c } }

theorem witness_ReservationPairResult_check : ∀ c ∈ [Config.ScAddrCheck.unchecked, .sameWord, .sameLine],
    (checking c).mem.wf ∧ (checking c).llbit = true ∧ (checking c).lladdr = 0x2008 ∧ (checking c).cfg.scAddrCheck = c ∧
    0x200C / 4 ≠ 0x2008 / 4 ∧ 0x2000 / 2 ^ (checking c).cfg.dcache.offset = 0x2008 / 2 ^ (checking c).cfg.dcache.offset ∧
    0x203C / 2 ^ (checking c).cfg.dcache.offset = 0x2008 / 2 ^ (checking c).cfg.dcache.offset ∧
    0x2040 / 2 ^ (checking c).cfg.dcache.offset ≠ 0x2008 / 2 ^ (checking c).cfg.dcache.offset := by decide +kernel

theorem witness_ReservationPairResult_store :
    resolve .store 4 (address14 5 2 (regs [(5, 0x2000)] cached)) (regs [(5, 0x2000)] cached) = .ok ⟨0x2008, 1⟩ ∧
    regionKind 0x2008 cached = .ram ∧ resolve .store 4 (address14 7 0 atDevice) atDevice = .ok ⟨0x10000, 1⟩ ∧
    resolve .store 4 (address14 6 0 atDevice) atDevice = .ok ⟨0x20000, 1⟩ ∧
    resolve .store 4 (address14 8 0 atDevice) atDevice = .ok ⟨0x30000, 1⟩ ∧ regionKind 0x10000 atDevice = .rom ∧
    regionKind 0x20000 atDevice = .device ∧ regionKind 0x30000 atDevice = .nothing ∧ atDevice.llbit = true ∧
    State.reset.llbit = false ∧ resolve .store 4 (address14 0 0 .reset) .reset = .ok ⟨0, 0⟩ := by decide +kernel

theorem witness_DirectAndWindowTranslation_direct : cached.csr.crmd.getLsbD 3 = true ∧ cached.csr.crmd.getLsbD 4 = false := by decide

/-- Two windows of one segment with different targets. -/
def twoWindows : State := { mapped with csr := { mapped.csr with dmw1 := 0x82000019 } }

theorem witness_DirectAndWindowTranslation_window : mapped.csr.crmd.getLsbD 3 = false ∧ mapped.csr.crmd.getLsbD 4 = true ∧ 2 ≤ mapped.cfg.dmwCount ∧
    (0x80000000 : Word).toNat / 2 ^ 29 = mapped.csr.dmw0.toNat / 2 ^ 29 ∧
    (0x9FFFFFFF : Word).toNat / 2 ^ 29 = mapped.csr.dmw0.toNat / 2 ^ 29 ∧
    mapped.csr.crmd.toNat % 4 = 0 ∧ mapped.csr.dmw0.getLsbD 0 = true ∧
    ((windows mapped).map fun v => windowHit v (plv mapped) 0x9FFFFFFF) = [true, false] ∧
    (mode 0x13 twoWindows).csr.crmd.toNat % 4 = 3 ∧ twoWindows.csr.dmw1.getLsbD 3 = true ∧
    ((windows twoWindows).map fun v => windowHit v (plv twoWindows) 0x80000000) = [true, true] ∧
    windowTarget twoWindows.csr.dmw1 0x80000000 twoWindows ≠ windowTarget twoWindows.csr.dmw0 0x80000000 twoWindows := by decide +kernel

theorem witness_TlbTranslation : ([(0 : Word), 0x00402000, 0x00403FFF, 0x40000000, 0x403FFFFF].all fun va =>
      (windows mapped).all fun w => !windowHit w (plv mapped) va) = true ∧
    (∀ e ∈ mapped.tlb, tlbMatch e (mapped.csr.asid.extractLsb' 0 10) 0 = false) ∧
    ([(0x00402000 : Word), 0x00403FFF].map fun va => mapped.tlb.filter (fun e => tlbMatch e (mapped.csr.asid.extractLsb' 0 10) va)) =
      List.replicate 2 [⟨true, 5, false, 12, 0x201, ⟨true, true, 0, 1, 0x100⟩, ⟨true, false, 0, 1, 0x101⟩⟩] ∧
    ([(0x40000000 : Word), 0x403FFFFF].map fun va => mapped.tlb.filter (fun e => tlbMatch e (mapped.csr.asid.extractLsb' 0 10) va)) =
      List.replicate 2 [⟨true, 0, true, 21, 0x20000, ⟨false, true, 3, 1, 0x200⟩, ⟨true, true, 3, 1, 0x400⟩⟩] ∧
    mapped.csr.crmd.toNat % 4 ≤ (0 : BitVec 2).toNat ∧ (0 : BitVec 2).toNat < (mode 0x13 mapped).csr.crmd.toNat % 4 ∧
    ({ mapped with tlb := pages ++ pages } : State).tlb.filter (fun e => tlbMatch e (mapped.csr.asid.extractLsb' 0 10) 0x00402000) =
      [⟨true, 5, false, 12, 0x201, ⟨true, true, 0, 1, 0x100⟩, ⟨true, false, 0, 1, 0x101⟩⟩,
       ⟨true, 5, false, 12, 0x201, ⟨true, true, 0, 1, 0x100⟩, ⟨true, false, 0, 1, 0x101⟩⟩] := by decide +kernel

theorem witness_levels : cached.csr.crmd.extractLsb' 0 2 = 0 ∧ user.csr.crmd.extractLsb' 0 2 ≠ 0 := by decide

theorem witness_EnterThenReturn : mapped.csr.crmd.getLsbD 3 = false ∧ mapped.csr.crmd.getLsbD 4 = true ∧ Exc.INT ≠ .TLBR := by decide

theorem witness_PrivilegedAtUserLevel : user.csr.crmd.extractLsb' 0 2 ≠ 0 ∧ (0x0F : BitVec 5).toNat / 8 ≠ 2 ∧
    (0x10 : BitVec 5).toNat / 8 = 2 ∧ (0x17 : BitVec 5).toNat / 8 = 2 ∧ (0x18 : BitVec 5).toNat / 8 ≠ 2 ∧
    (6 : BitVec 5).toNat ≤ 6 ∧ 6 < (7 : BitVec 5).toNat := by decide

theorem witness_UserLevelCannotTouchSystem : user.csr.crmd.extractLsb' 0 2 ≠ 0 ∧ (∃ t, exec (.addW 3 1 2) user = .next t) ∧
    ∃ t, exec (.csrrd 4 0) user = .next t :=
  ⟨by decide, next_of_after (by decide +kernel), next_of_after (by decide +kernel)⟩

/-- Interrupts on, software interrupt 0 pending and enabled. -/
def interrupted : State := { mode 0xAC ready with csr := { (mode 0xAC ready).csr with estat := 1, ecfg := 1 } }

theorem witness_InterruptAndWaiting : (boundary interrupted).defined ∧ (boundary interrupted).csr.crmd.getLsbD 2 = true ∧
    ((boundary interrupted).csr.estat &&& (boundary interrupted).csr.ecfg).extractLsb' 0 13 ≠ 0 ∧
    (nextInput interrupted).deferInterrupt = false ∧ cached.csr.crmd.extractLsb' 0 2 = 0 ∧
    ({ ready with waiting := true } : State).waiting = true ∧ (boundary { ready with waiting := true }).defined ∧
    ((boundary { ready with waiting := true }).csr.estat &&& (boundary { ready with waiting := true }).csr.ecfg).extractLsb' 0 13 = 0 ∧
    (boundary { mode 0xA8 interrupted with waiting := true }).defined ∧
    (boundary { mode 0xA8 interrupted with waiting := true }).csr.crmd.getLsbD 2 = false ∧
    ((boundary { mode 0xA8 interrupted with waiting := true }).csr.estat &&&
      (boundary { mode 0xA8 interrupted with waiting := true }).csr.ecfg).extractLsb' 0 13 ≠ 0 ∧
    (cached.csr.estat &&& cached.csr.ecfg).extractLsb' 0 13 = 0 ∧
    ((mode 0xA8 interrupted).csr.estat &&& (mode 0xA8 interrupted).csr.ecfg).extractLsb' 0 13 ≠ 0 ∧
    (boundary woken).defined ∧ woken.waiting = true ∧ (nextInput woken).deferInterrupt = true ∧
    ((boundary woken).csr.estat &&& (boundary woken).csr.ecfg).extractLsb' 0 13 ≠ 0 := by decide +kernel

theorem witness_FetchExceptions : (boundary (mode 0x9 ready)).csr.crmd.extractLsb' 0 2 = 1 ∧
    (boundary (mode 0xA ready)).csr.crmd.extractLsb' 0 2 = 2 ∧
    (boundary (mode 0x0 ready)).csr.crmd.extractLsb' 0 2 = 0 ∧ (boundary (mode 0x1B ready)).csr.crmd.extractLsb' 0 2 = 3 ∧
    (boundary (mode 0x1B ready)).csr.crmd.getLsbD 3 = (boundary (mode 0x1B ready)).csr.crmd.getLsbD 4 ∧
    (∀ s ∈ [at_ 0x1C000001 ready, mapped, mode 0x48 ready, at_ 0x30000 platform, at_ 0x20000 platform, .reset,
      State.reset.withFetchWord 32 0x6021, (at_ 0x80000000 twoWindows), woken, at_ 0x1C000001 woken], fetches s = true) ∧
    translate .fetch (boundary (at_ 0x80000000 twoWindows)).pc (boundary (at_ 0x80000000 twoWindows)) = .refuse .conflictingWindows ∧
    (boundary (at_ 0x1C000001 ready)).pc.toNat % 4 ≠ 0 ∧
    translate .fetch (boundary mapped).pc (boundary mapped) = .raise .TLBR 0x1C000000 ∧
    translate .fetch (boundary (mode 0x48 ready)).pc (boundary (mode 0x48 ready)) = .ok ⟨0x1C000000, 2⟩ ∧
    translate .fetch (boundary (at_ 0x30000 platform)).pc (boundary (at_ 0x30000 platform)) = .ok ⟨0x30000, 1⟩ ∧
    regionKind 0x30000 (boundary (at_ 0x30000 platform)) = .nothing ∧
    fetchPlace (boundary (at_ 0x20000 platform)) = .ok ⟨⟨0x20000, 1⟩, .device⟩ ∧
    fetchPlace (boundary .reset) = .ok ⟨⟨0x1C000000, 0⟩, .ram⟩ ∧
    decodeWord (seenWord 0 0x1C000000 (boundary .reset)) = .error .undefined ∧
    decodeWord (seenWord 0 0x1C000000 (boundary (State.reset.withFetchWord 32 0x6021))) = .error .rdtime := by decide +kernel

theorem witness_CsrReadResult : cached.csr.crmd.extractLsb' 0 2 = 0 ∧ user.csr.crmd.extractLsb' 0 2 ≠ 0 ∧
    csrAbsent 0x18 cached = false ∧ csrAbsent 0x1B cached = false ∧ csrAbsent 0x20 cached = false ∧ csrAbsent 0x60 cached = false ∧
    csrAbsent 0x180 cached = false ∧
    ({ cached.csr with llbctl := 4 } : Csr).llbctl &&& 0xFFFFFFFB = 0 ∧
    ({ cached.csr with asid := 0x3FF } : Csr).asid &&& 0xFFFFFC00 = 0 ∧
    (0x3 : BitVec 14) ∉ [0x0, 0x1, 0x2, 0x4, 0x5, 0x6, 0x7, 0xC, 0x10, 0x11, 0x12, 0x13, 0x18, 0x19, 0x1A, 0x1B, 0x20, 0x30, 0x31,
      0x32, 0x33, 0x40, 0x41, 0x42, 0x44, 0x60, 0x88, 0x180, 0x181] ∧
    csrAbsent 0x181 { cached with cfg := { cached.cfg with dmwCount := 1 } } = true := by decide +kernel

theorem witness_CsrMaskedWrite : csrAbsent 0x181 cached = false ∧ (0x181 : BitVec 14) ≠ 0x44 ∧ csrAbsent 0x0 cached = false := by
  decide +kernel

theorem witness_CsrSideEffects : cached.cfg.absentCsrs = [] ∧ (csrWrite 0x41 1 1 cached).csr.tcfg.getLsbD 0 = true ∧
    (0x60 : BitVec 14) ≠ 0x41 := by decide +kernel

/-- A timer that counts: enabled, periodic, initial value 2. -/
def timed : State := { cached with timerRun := true, timerVal := 1, csr := { cached.csr with tcfg := 0xB } }

theorem witness_ClockTick : timed.csr.tcfg.getLsbD 0 = true ∧ timed.timerRun = true ∧ timed.timerVal ≠ 0 ∧
    ({ timed with timerVal := 0 } : State).timerVal = 0 ∧ timed.csr.tcfg.getLsbD 1 = true ∧
    ({ timed.csr with tcfg := 0x9 } : Csr).tcfg.getLsbD 1 = false ∧ cached.csr.tcfg.getLsbD 0 = false ∧ timed.cfg.absentCsrs = [] ∧
    timed.timerVal.toNat < 2 ^ timed.cfg.timerN ∧ timed.cfg.timerN ≤ 32 := by decide +kernel

/-- TLB registers that describe an entry of a page size. -/
def tlbRegs (tlbidx : Word) : State := { mapped with csr := { mapped.csr with tlbidx := tlbidx } }

theorem witness_TlbWriteAndReadResult_write : (tlbRegs 0x0C000003).csr.crmd.extractLsb' 0 2 = 0 ∧ (tlbRegs 0x0C000003).cfg.tlbidxN ≤ 16 ∧
    (newEntry (tlbRegs 0x0C000003)).ps = 12 ∧ (newEntry (tlbRegs 0x15000000)).ps = 21 ∧ (newEntry (tlbRegs 0x8D000003)).e = false ∧
    (tlbRegs 0x0C000003).csr.tlbidx.toNat % 2 ^ (tlbRegs 0x0C000003).cfg.tlbidxN < (tlbRegs 0x0C000003).tlb.length ∧
    (tlbRegs 0x0C000003).tlb ≠ [] ∧ ({ tlbRegs 0x0C000003 with tlb := [] } : State).tlb = [] ∧
    (newEntry (tlbRegs 0x0D000003)).e = true ∧ (newEntry (tlbRegs 0x0D000003)).ps ≠ 12 ∧ (newEntry (tlbRegs 0x0D000003)).ps ≠ 21 ∧
    (tlbRegs 0x0C000004).tlb.length ≤ (tlbRegs 0x0C000004).csr.tlbidx.toNat % 2 ^ (tlbRegs 0x0C000004).cfg.tlbidxN := by decide +kernel

theorem witness_TlbWriteAndReadResult_read : (tlbRegs 0).csr.crmd.extractLsb' 0 2 = 0 ∧ (tlbRegs 0).cfg.tlbidxN ≤ 16 ∧
    ([(0 : Word), 1, 3].map fun i => ((tlbRegs i).tlb[(tlbRegs i).csr.tlbidx.toNat % 2 ^ (tlbRegs i).cfg.tlbidxN]?).map
      fun e => (e.e, e.ps)) = [some (true, 12), some (true, 21), some (false, 0)] ∧
    19 + 12 < (tlbRegs 0).cfg.palen ∧ (tlbRegs 0).cfg.palen ≤ 20 + 12 ∧
    (tlbRegs 4).tlb.length ≤ (tlbRegs 4).csr.tlbidx.toNat % 2 ^ (tlbRegs 4).cfg.tlbidxN := by decide +kernel

/-- The page number TLBRD delivers ends at PALEN (R93). -/
theorem test_tlbrd_palen : after .tlbrd { mapped with
      cfg := { mapped.cfg with palen := 20 }, tlb := [⟨true, 5, true, 12, 0x201, ⟨true, true, 0, 1, 0xFFFFFF⟩, .zero⟩] }
    (fun t => t.csr.tlbelo0) = some 0xFF53 := by decide +kernel

/-- TLBEHI at a page pair, over a TLB. -/
def searching (tlbehi : Word) (l : List TlbEntry) : State := { mapped with tlb := l, csr := { mapped.csr with tlbehi := tlbehi } }

/-- The indices of the entries that match TLBEHI, in the words of TlbSearchResult. -/
def hitsOf (s : State) : List Bool :=
  s.tlb.map fun e => tlbMatch e (s.csr.asid.extractLsb' 0 10) (s.csr.tlbehi &&& 0xFFFFE000)

theorem witness_TlbSearchResult : mapped.csr.crmd.extractLsb' 0 2 = 0 ∧ mapped.cfg.tlbidxN ≤ 16 ∧
    (pages ++ pages).length ≤ 2 ^ mapped.cfg.tlbidxN ∧
    (∀ e ∈ (searching 0 pages).tlb, tlbMatch e ((searching 0 pages).csr.asid.extractLsb' 0 10)
      ((searching 0 pages).csr.tlbehi &&& 0xFFFFE000) = false) ∧
    hitsOf (searching 0x00402000 pages) = [true, false, false, false] ∧
    hitsOf (searching 0x00402000 (pages ++ pages)) = [true, false, false, false, true, false, false, false] := by decide +kernel

theorem witness_TlbInvalidateResult : mapped.csr.crmd.extractLsb' 0 2 = 0 ∧ (6 : BitVec 5).toNat ≤ 6 ∧ (3 : BitVec 5).toNat < 4 ∧
    (gprGet 4 (regs [(4, 0x3FF)] mapped)).toNat < 1024 ∧ 4 ≤ (4 : BitVec 5).toNat ∧ 1024 ≤ (gprGet 4 (regs [(4, 0x400)] mapped)).toNat := by
  decide +kernel

theorem witness_CacheOperationResult : cached.csr.crmd.extractLsb' 0 2 = 0 ∧
    translate .load (address12 0 0 cached) cached = .ok ⟨0, 1⟩ ∧ translate .load (address12 0 0 .reset) .reset = .ok ⟨0, 0⟩ ∧
    translate .load (address12 0 0 (mode 0x108 cached)) (mode 0x108 cached) = .ok ⟨0, 2⟩ ∧
    translate .load (address12 0 0 mapped) mapped = .raise .TLBR 0 ∧
    translate .load 0 (mode 0x18 cached) = .refuse .illegalTranslationMode ∧
    0x7C / 2 ^ cached.cfg.dcache.offset = 0x40 / 2 ^ cached.cfg.dcache.offset ∧
    0x80 / 2 ^ cached.cfg.dcache.offset ≠ 0x40 / 2 ^ cached.cfg.dcache.offset ∧
    (∀ c ∈ [(0x03 : BitVec 5), 0x13, 0x17, 0x18], c ∉ [0x00, 0x01, 0x02, 0x08, 0x09, 0x0A, 0x10, 0x11, (0x12 : BitVec 5)]) ∧
    (0x13 : BitVec 5).toNat / 8 = 2 ∧ (0x17 : BitVec 5).toNat / 8 = 2 ∧ user.csr.crmd.extractLsb' 0 2 ≠ 0 := by decide +kernel

/-- A Hit code without a function is refused at PLV3 too. -/
theorem test_cacop_hit_unnamed : refusal (.cacop 0x13 0 0) user = some .cacopUnnamedCode := by decide +kernel

theorem witness_CodeMaintenanceSequence : translate .load (address12 0 0x40 cached) cached = .ok ⟨0x40, 1⟩ ∧ 0x40 % 4 = 0 := by
  decide +kernel

/-- Operands 1.0, 2.0, a signalling and a quiet NaN, in both precisions at once; every exception enabled where `enables` is
0x1F. -/
def operands (enables : Word) : State :=
  { fregs [(1, 0x3FF000003F800000), (2, 0x4000000040000000), (3, 0x7FF000017F800001), (4, 0x7FF800007FC00000)] cached with
    fcsr0 := enables }

theorem witness_floatReady : floatReady true (operands 0) ∧ floatReady false (operands 0) ∧ floatReady true (operands 0x1F) ∧
    floatReady false (operands 0x1F) := by decide +kernel

theorem witness_ArithmeticResult_single :
    (fpAdd fp32 (fpEnv (operands 0)) (fprGetW 1 (operands 0)) (fprGetW 2 (operands 0))).exc &&& (operands 0).fcsr0.extractLsb' 0 5 = 0 ∧
    (fpAdd fp32 (fpEnv (operands 0x1F)) (fprGetW 1 (operands 0x1F)) (fprGetW 3 (operands 0x1F))).exc &&& (operands 0x1F).fcsr0.extractLsb' 0 5 ≠ 0 := by
  decide +kernel

theorem witness_ArithmeticResult_double :
    (fpAdd fp64 (fpEnv (operands 0)) (fprGet 1 (operands 0)) (fprGet 2 (operands 0))).exc &&& (operands 0).fcsr0.extractLsb' 0 5 = 0 ∧
    (fpAdd fp64 (fpEnv (operands 0x1F)) (fprGet 1 (operands 0x1F)) (fprGet 3 (operands 0x1F))).exc &&& (operands 0x1F).fcsr0.extractLsb' 0 5 ≠ 0 := by
  decide +kernel

theorem witness_CompareFlagResult : (0 : BitVec 5) &&& (operands 0x1F).fcsr0.extractLsb' 0 5 = 0 ∧
    isSNan (f := fp32) (fprGetW 3 (operands 0x1F)) = true ∧ isSNan (f := fp64) (fprGet 3 (operands 0x1F)) = true ∧
    (0x10 : BitVec 5) &&& (operands 0x1F).fcsr0.extractLsb' 0 5 ≠ 0 := by decide +kernel

/-- A datum with a finite view stands for the number of that view. -/
theorem standsFor_view {f : FpFormat} {v : BitVec f.width} {neg : Bool} {m : Nat} {e : Int} {x : ℝ} (h : view v = .fin neg m e)
    (hx : x = (if neg then -1 else 1) * m * 2 ^ e) : standsFor v x := ⟨neg, m, e, h, hx⟩

/-- 1, -1, +0 and -0 in both formats, which meet every clause about numbers in the statements of floating-point values: sums,
products and quotients of them are nonzero or zero, positive or negative, with like and unlike signs. -/
theorem witness_numbers :
    (standsFor (f := fp32) 0x3F800000 1 ∧ standsFor (f := fp32) 0xBF800000 (-1) ∧ standsFor (f := fp32) 0 0 ∧
      standsFor (f := fp32) 0x80000000 0) ∧
    standsFor (f := fp64) 0x3FF0000000000000 1 ∧ standsFor (f := fp64) 0xBFF0000000000000 (-1) ∧ standsFor (f := fp64) 0 0 ∧
      standsFor (f := fp64) 0x8000000000000000 0 := by
  refine ⟨⟨?_, ?_, ?_, ?_⟩, ?_, ?_, ?_, ?_⟩
  · exact standsFor_view (show view (f := fp32) 0x3F800000 = .fin false 0x800000 (-23) by decide +kernel) (by norm_num)
  · exact standsFor_view (show view (f := fp32) 0xBF800000 = .fin true 0x800000 (-23) by decide +kernel) (by norm_num)
  · exact standsFor_view (show view (f := fp32) 0 = .fin false 0 (-149) by decide +kernel) (by norm_num)
  · exact standsFor_view (show view (f := fp32) 0x80000000 = .fin true 0 (-149) by decide +kernel) (by norm_num)
  · exact standsFor_view (show view (f := fp64) 0x3FF0000000000000 = .fin false 0x10000000000000 (-52) by decide +kernel) (by norm_num)
  · exact standsFor_view (show view (f := fp64) 0xBFF0000000000000 = .fin true 0x10000000000000 (-52) by decide +kernel) (by norm_num)
  · exact standsFor_view (show view (f := fp64) 0 = .fin false 0 (-1074) by decide +kernel) (by norm_num)
  · exact standsFor_view (show view (f := fp64) 0x8000000000000000 = .fin true 0 (-1074) by decide +kernel) (by norm_num)

/-- The two infinities of both formats, and of their products: infinity times 1 is infinite, times 0 it is invalid. -/
theorem witness_infinities : isInfinity (f := fp32) 0x7F800000 ∧ isInfinity (f := fp32) 0xFF800000 ∧
    isInfinity (f := fp64) 0x7FF0000000000000 ∧ isInfinity (f := fp64) 0xFFF0000000000000 ∧
    infiniteProduct (f := fp32) 0x7F800000 0xBF800000 true ∧ infiniteProduct (f := fp64) 0x7FF0000000000000 0xBFF0000000000000 true ∧
    zeroTimesInfinity (f := fp32) 0x7F800000 0 ∧ zeroTimesInfinity (f := fp64) 0 0xFFF0000000000000 := by
  have n := witness_numbers
  have i : isInfinity (f := fp32) 0x7F800000 := ⟨false, by decide +kernel⟩
  have j : isInfinity (f := fp64) 0x7FF0000000000000 := ⟨false, by decide +kernel⟩
  have k : isInfinity (f := fp64) 0xFFF0000000000000 := ⟨true, by decide +kernel⟩
  exact ⟨i, ⟨true, by decide +kernel⟩, j, k, ⟨by decide +kernel, .inl ⟨i, .inr ⟨-1, by norm_num, n.1.2.1⟩⟩⟩,
    ⟨by decide +kernel, .inl ⟨j, .inr ⟨-1, by norm_num, n.2.2.1⟩⟩⟩, .inl ⟨i, n.1.2.2.1⟩, .inr ⟨n.2.2.2.1, k⟩⟩

theorem witness_FloatDataFields : (false = BitVec.getLsbD (0x3F800000 : BitVec fp32.width) (fp32.expBits + fp32.fracBits)) ∧
    127 = ((0x3F800000 : BitVec fp32.width).extractLsb' fp32.fracBits fp32.expBits).toNat ∧
    0 = ((0x3F800000 : BitVec fp32.width).extractLsb' 0 fp32.fracBits).toNat := by decide +kernel

/-- Every relation between operands that are no NaN, and between their magnitudes. -/
theorem witness_MaxMinSelection : isNan (f := fp32) 0x3F800000 = false ∧ isNan (f := fp32) 0x7F800000 = false ∧
    relation (f := fp32) 0x3F800000 0xBF800000 = .gt ∧ relation (f := fp32) 0xFF800000 0x3F800000 = .lt ∧
    relation (f := fp32) 0 0x80000000 = .eq ∧ relation (f := fp32) (magnitudeOf (f := fp32) 0xBF800000) (magnitudeOf (f := fp32) 0) = .gt ∧
    relation (f := fp32) (magnitudeOf (f := fp32) 0) (magnitudeOf (f := fp32) 0xBF800000) = .lt ∧
    relation (f := fp32) (magnitudeOf (f := fp32) 0x3F800000) (magnitudeOf (f := fp32) 0xBF800000) = .eq := by decide +kernel

theorem witness_RelationOfNumbers : view (f := fp32) 0x7F800000 = .inf false ∧ view (f := fp32) 0xFF800000 = .inf true ∧
    view (f := fp64) 0x7FF0000000000000 = .inf false ∧ view (f := fp64) 0xFFF0000000000000 = .inf true ∧
    isFinite (f := fp32) 0x3F800000 ∧ isFinite (f := fp64) 0 :=
  ⟨by decide +kernel, by decide +kernel, by decide +kernel, by decide +kernel, ⟨1, witness_numbers.1.1⟩, ⟨0, witness_numbers.2.2.2.1⟩⟩

theorem witness_NanPropagation : isSNan (f := fp32) 0x7F800001 = true ∧ isSNan (f := fp32) 0x7FC00000 = false ∧
    isNan (f := fp32) 0x7FC00000 = true ∧ isNan (f := fp32) 0 = false ∧ isSNan (f := fp64) 0x7FF0000000000001 = true ∧
    isSNan (f := fp64) 0x7FF8000000000000 = false ∧ isNan (f := fp64) 0x7FF8000000000000 = true ∧ isNan (f := fp64) 0 = false ∧
    isQNan (f := fp32) 0x7FC00000 = true ∧ isQNan (f := fp64) 0x7FF8000000000000 = true := by decide +kernel

theorem witness_CorrectRounding : ∃ (m : Nat) (e : Int) (x : ℚ), 0 < m ∧ x = (if false then -1 else 1 : ℚ) * m * 2 ^ e ∧
    (roundFp fp32 (env 0) false m e).exc.getLsbD 2 = false ∧ (roundFp fp64 (env 0) false m e).exc.getLsbD 2 = false ∧
    view (f := fp32) 0x3F800000 = .fin false 0x800000 (-23) :=
  ⟨0x1000001, -24, _, by decide, rfl, by decide +kernel, by decide +kernel, by decide +kernel⟩

theorem witness_FloatMoveResult : 4 ≤ (4 : BitVec 5).toNat ∧ 4 ≤ (31 : BitVec 5).toNat := by decide

theorem witness_ConversionResult :
    (toWordS 0 (fprGetW 1 (operands 0x1F))).exc &&& (operands 0x1F).fcsr0.extractLsb' 0 5 = 0 ∧
    (fpConvert fp32 fp64 (fpEnv (operands 0x1F)) (fprGetW 1 (operands 0x1F))).exc &&& (operands 0x1F).fcsr0.extractLsb' 0 5 = 0 ∧
    (fpConvert fp32 fp64 (fpEnv (operands 0x1F)) (fprGetW 3 (operands 0x1F))).exc &&& (operands 0x1F).fcsr0.extractLsb' 0 5 ≠ 0 ∧
    (fpConvert fp64 fp32 (fpEnv (operands 0x1F)) (fprGet 3 (operands 0x1F))).exc &&& (operands 0x1F).fcsr0.extractLsb' 0 5 ≠ 0 := by decide +kernel

theorem witness_ToWordValue : view (f := fp32) 0x40200000 = .fin false 0xA00000 (-22) ∧
    roundToInt .nearestEven false 0xA00000 (-22) = 2 ∧ view (f := fp32) 0x4F000000 = .fin false 0x800000 8 ∧
    roundToInt .nearestEven false 0x800000 8 = 2147483648 ∧ view (f := fp64) 0xC1E0000000000000 = .fin true 0x10000000000000 (-21) ∧
    roundToInt .nearestEven true 0x10000000000000 (-21) = -2147483648 ∧
    toSint32 (f := fp32) (.ofBits 0) 0x40200000 = some (2, 1) ∧ toSint32 (f := fp32) (.ofBits 0) 0x4F000000 = none ∧
    toSint32 (f := fp64) (.ofBits 3) 0xC1E0000000000000 = some (0x80000000, 0) ∧
    toSint32 (f := fp64) (.ofBits 2) 0x7FF8000000000000 = none := by decide +kernel

theorem witness_FloatLoadStoreResult : cached.mem.wf ∧ floatReady true cached ∧ floatReady false cached ∧
    locate .load 4 (address12 0 4 cached) cached = .ok ⟨⟨4, 1⟩, .ram⟩ ∧ locate .load 8 (address12 0 0xFF8 cached) cached =
      .ok ⟨⟨0xFFFFFFF8, 1⟩, .ram⟩ ∧ locate .store 4 (address12 0 0xFFC cached) cached = .ok ⟨⟨0xFFFFFFFC, 1⟩, .ram⟩ ∧
    locate .store 8 (address12 0 8 cached) cached = .ok ⟨⟨8, 1⟩, .ram⟩ := by decide +kernel

theorem witness_FloatUnavailable : isFloat (.faddS 1 2 3) = true ∧ isFloat (.fldD 1 2 3) = true ∧ isFloat (.bceqz 1 2) = true ∧
    isFloat (.addW 1 2 3) = false ∧ namesDouble (.faddS 1 2 3) = false ∧ namesDouble (.fldD 1 2 3) = true ∧ State.reset.cfg.fpLevel = .full ∧ State.reset.csr.euen.getLsbD 0 = false ∧
    ({ Config.Params.standard with fpLevel := .none } : Config.Params).fpLevel = .none ∧
    ({ Config.Params.standard with fpLevel := .single } : Config.Params).fpLevel = .single := by decide +kernel

end Sys2Proof.Tests
end

/-! SUPPORT. What every step keeps: the parameters, the number of TLB entries, and the invariant (Safety.lean). One lemma for
each update of the state, one for each shared operation, one for the instructions, one for the step. -/

namespace Sys2Proof.Machine

/-! Words of which only the bits of a mask may be set (R67). -/

theorem onlyBits_iff {w mask : Word} :
    onlyBits w mask ↔ ∀ i, i < 32 → w.getLsbD i = true → mask.getLsbD i = true := by
  constructor
  · intro h i hi hw
    have hb := congrArg (·.getLsbD i) h
    simpa [hi, hw] using hb
  · intro h
    refine BitVec.eq_of_getLsbD_eq fun i hi => ?_
    simpa [hi] using h i hi

theorem onlyBits_full (w : Word) : onlyBits w 0xFFFFFFFF := by
  simp [onlyBits]

theorem onlyBits_and_left {w mask : Word} (h : onlyBits w mask) (x : Word) : onlyBits (w &&& x) mask := by
  rw [onlyBits_iff] at h ⊢
  intro i hi hw
  rw [BitVec.getLsbD_and, Bool.and_eq_true] at hw
  exact h i hi hw.1

theorem onlyBits_and_right (w mask : Word) : onlyBits (w &&& mask) mask := by
  rw [onlyBits_iff]
  intro i _ hw
  rw [BitVec.getLsbD_and, Bool.and_eq_true] at hw
  exact hw.2

theorem onlyBits_or {v w mask : Word} (hv : onlyBits v mask) (hw : onlyBits w mask) : onlyBits (v ||| w) mask := by
  rw [onlyBits_iff] at hv hw ⊢
  intro i hi h
  rw [BitVec.getLsbD_or, Bool.or_eq_true] at h
  exact h.elim (hv i hi) (hw i hi)

theorem onlyBits_zero (mask : Word) : onlyBits 0 mask := BitVec.zero_and

theorem onlyBits_or_mask_left {w a : Word} (h : onlyBits w a) (b : Word) : onlyBits w (a ||| b) := by
  rw [onlyBits_iff] at h ⊢
  intro i hi hw
  rw [BitVec.getLsbD_or, h i hi hw, Bool.true_or]

theorem onlyBits_or_mask_right {w b : Word} (h : onlyBits w b) (a : Word) : onlyBits w (a ||| b) := by
  rw [BitVec.or_comm]
  exact onlyBits_or_mask_left h a

/-- Replacing bits inside the mask leaves no bit outside it. -/
theorem onlyBits_setBits {r field mask : Word} (hr : onlyBits r mask) (hf : onlyBits field mask) (v : Word) :
    onlyBits (setBits r field v) mask :=
  onlyBits_or (onlyBits_and_left hr _) (by rw [BitVec.and_comm]; exact onlyBits_and_left hf v)

/-- Having no bit from `n` up is being below `2 ^ n`. -/
theorem onlyBits_lowMask_iff {w : Word} {n : Nat} : onlyBits w (lowMask n) ↔ w.toNat < 2 ^ n := by
  have hmask : ∀ i, i < 32 → ((lowMask n).getLsbD i = true ↔ i < n) := by
    intro i hi
    rw [lowMask, BitVec.getLsbD_ofNat, Nat.testBit_two_pow_sub_one]
    simp [hi]
  rw [onlyBits_iff]
  constructor
  · intro h
    refine Nat.lt_pow_two_of_testBit _ fun i hi => ?_
    by_cases h32 : i < 32
    · have hbit : ¬ w.getLsbD i = true := fun hw => absurd ((hmask i h32).mp (h i h32 hw)) (by omega)
      simpa [BitVec.getLsbD] using hbit
    · exact BitVec.getLsbD_of_ge w i (by omega)
  · intro h i hi hw
    rw [hmask i hi]
    by_contra hn
    have hlow : w.toNat < 2 ^ i := h.trans_le (Nat.pow_le_pow_right (by omega) (by omega))
    rw [BitVec.getLsbD, Nat.testBit_lt_two_pow hlow] at hw
    exact absurd hw (by decide)

/-! Reserved bits of the control and status registers, for every register number at once. -/

/-- The bits of a register that may be 1: the software-writable ones, and of ESTAT also those hardware writes (R74). -/
def csrLegal (n : BitVec 14) (s : State) : Word := if n = 0x5 then 0x7FFF1BFF else csrMask n s

/-- No register holds a 1 in a bit that may not be 1 under the parameters of `s`. -/
def Csr.legal (s : State) (c : Csr) : Prop := ∀ n, onlyBits (csrStored n c) (csrLegal n s)

/-- A register read after a register write: the old value, or at its own number the new one. -/
theorem csrStored_csrStore (n k : BitVec 14) (v : Word) (c : Csr) :
    csrStored k (csrStore n v c) = csrStored k c ∨ k = n ∧ csrStored k (csrStore n v c) = v := by
  unfold csrStore
  split
  case h_26 => exact .inl rfl
  all_goals
    unfold csrStored
    split <;> simp

theorem csrLegal_prmd (s : State) : csrLegal 0x1 s = 0x00000007 := rfl
theorem csrLegal_estat (s : State) : csrLegal 0x5 s = 0x7FFF1BFF := rfl
theorem csrLegal_tlbidx (s : State) : csrLegal 0x10 s = lowMask s.cfg.tlbidxN ||| 0x3F000000 ||| 0x80000000 := rfl
theorem csrLegal_tlbehi (s : State) : csrLegal 0x11 s = 0xFFFFE000 := rfl
theorem csrLegal_llbctl (s : State) : csrLegal 0x60 s = 0x00000004 := rfl

theorem csrMask_legal (n : BitVec 14) (s : State) : onlyBits (csrMask n s) (csrLegal n s) := by
  unfold csrLegal
  split
  · subst n
    exact (by decide : onlyBits 0x00000003 0x7FFF1BFF)
  · exact BitVec.and_not_self _

/-- The invariant's clause about reserved bits is `Csr.legal` of the state's registers. -/
theorem csrsReserved_iff (s : State) : s.csrsReserved ↔ s.csr.legal s := by
  constructor
  · rintro ⟨crmd, prmd, euen, ecfg, estat, eentry, tlbidx, tlbehi, tlbelo0, tlbelo1, asid, pgdl, pgdh, tcfg, llbctl,
      tlbrentry, dmw0, dmw1⟩ n
    unfold csrStored
    split
    -- ERA, BADV, the SAVE registers and TID have no reserved bit; a number with no register stores 0.
    case h_6 | h_7 | h_16 | h_17 | h_18 | h_19 | h_20 => exact onlyBits_full _
    case h_26 => exact BitVec.zero_and
    all_goals assumption
  · intro h
    exact ⟨h 0x0, h 0x1, h 0x2, h 0x4, h 0x5, h 0xC, h 0x10, h 0x11, h 0x12, h 0x13, h 0x18, h 0x19, h 0x1A, h 0x41, h 0x60,
      h 0x88, h 0x180, h 0x181⟩

/-- Storing a legal value keeps every register legal. -/
theorem Csr.legal.store {s : State} {c : Csr} (h : c.legal s) {n : BitVec 14} {v : Word} (hv : onlyBits v (csrLegal n s)) :
    (csrStore n v c).legal s := by
  intro k
  rcases csrStored_csrStore n k v c with hk | ⟨rfl, hk⟩
  · rw [hk]
    exact h k
  · rw [hk]
    exact hv

/-- So does replacing legal bits of a register. -/
theorem Csr.legal.storeBits {s : State} {c : Csr} (h : c.legal s) {n : BitVec 14} {field : Word}
    (hf : onlyBits field (csrLegal n s)) (v : Word) : (csrStore n (setBits (csrStored n c) field v) c).legal s :=
  h.store (onlyBits_setBits (h n) hf v)

/-! What a step keeps. -/

/-- From `s` to `t` the parameters and the number of TLB entries are the same, and the invariant is kept. -/
structure Keeps (s t : State) : Prop where
  cfg : t.cfg = s.cfg
  tlbLength : t.tlb.length = s.tlb.length
  inv : s.Inv → t.Inv

theorem Keeps.refl (s : State) : Keeps s s := ⟨rfl, rfl, id⟩

theorem Keeps.trans {s t u : State} (h : Keeps s t) (k : Keeps t u) : Keeps s u :=
  ⟨k.cfg.trans h.cfg, k.tlbLength.trans h.tlbLength, k.inv ∘ h.inv⟩

/-- An update of the control and status registers alone that leaves them legal. -/
theorem keeps_csr {s : State} {c : Csr} (h : s.csr.legal s → c.legal s) : Keeps s { s with csr := c } := by
  refine ⟨rfl, rfl, ?_⟩
  rintro ⟨hcfg, hr0, hmem, hcsr, hfcsr, htimer, hlen, htlb⟩
  have hc := (csrsReserved_iff { s with csr := c }).mpr (h ((csrsReserved_iff s).mp hcsr))
  exact ⟨hcfg, hr0, hmem, hc, hfcsr, htimer, hlen, htlb⟩

/-- An update of the timer's value alone that fits its width where TCFG and the old value do. -/
theorem keeps_timerVal {s : State} {v : Word}
    (h : onlyBits s.csr.tcfg (lowMask s.cfg.timerN) → onlyBits s.timerVal (lowMask s.cfg.timerN) →
      onlyBits v (lowMask s.cfg.timerN)) : Keeps s { s with timerVal := v } := by
  refine ⟨rfl, rfl, ?_⟩
  rintro ⟨hcfg, hr0, hmem, hcsr, hfcsr, htimer, hlen, htlb⟩
  have htcfg := (csrsReserved_iff s).mp hcsr 0x41
  exact ⟨hcfg, hr0, hmem, hcsr, hfcsr, h htcfg htimer, hlen, htlb⟩

/-- An update of memory alone that keeps its canonical form. -/
theorem keeps_mem {s : State} {m : Memory} (h : s.mem.wf → m.wf) : Keeps s { s with mem := m } := by
  refine ⟨rfl, rfl, ?_⟩
  rintro ⟨hcfg, hr0, hmem, hrest⟩
  exact ⟨hcfg, hr0, h hmem, hrest⟩

/-- An update of fcsr0 alone that sets no reserved bit (R47). -/
theorem keeps_fcsr0 {s : State} {v : Word} (h : onlyBits s.fcsr0 0x1F1F031F → onlyBits v 0x1F1F031F) :
    Keeps s { s with fcsr0 := v } := by
  refine ⟨rfl, rfl, ?_⟩
  rintro ⟨hcfg, hr0, hmem, hcsr, hfcsr, hrest⟩
  exact ⟨hcfg, hr0, hmem, hcsr, h hfcsr, hrest⟩

/-- An update of the TLB alone that keeps its length and brings in no unsupported page. -/
theorem keeps_tlb {s : State} {l : List TlbEntry} (hl : l.length = s.tlb.length)
    (h : ∀ e ∈ l, e.e = true → e ∈ s.tlb ∨ supportedPage e.ps = true) : Keeps s { s with tlb := l } := by
  refine ⟨rfl, hl, ?_⟩
  rintro ⟨hcfg, hr0, hmem, hcsr, hfcsr, htimer, hlen, htlb⟩
  refine ⟨hcfg, hr0, hmem, hcsr, hfcsr, htimer, hl.trans hlen, fun e he hv => ?_⟩
  exact (h e he hv).elim (fun hold => htlb e hold hv) id

/-! The updates of the state. -/

theorem keeps_advance (s : State) : Keeps s (advance s) := ⟨rfl, rfl, id⟩

theorem keeps_jumpTo (a : Word) (s : State) : Keeps s (jumpTo a s) := ⟨rfl, rfl, id⟩

/-- r0's storage stays 0 (R31). -/
theorem keeps_gprSet (r : Reg) (v : Word) (s : State) : Keeps s (gprSet r v s) := by
  refine ⟨rfl, rfl, ?_⟩
  rintro ⟨hcfg, hr0, hrest⟩
  have hgpr : (gprSet r v s).gpr[0] = 0 := by
    by_cases hr : r = 0#5
    · simpa [hr] using hr0
    · have hn : r.toNat ≠ 0 := fun e => hr (BitVec.eq_of_toNat_eq e)
      simpa [hr, hn] using hr0
  exact ⟨hcfg, hgpr, hrest⟩

theorem keeps_fprSet (r : FReg) (v : DWord) (s : State) : Keeps s (fprSet r v s) := ⟨rfl, rfl, id⟩

theorem keeps_fprSetW (r : FReg) (v : Word) (s : State) : Keeps s (fprSetW r v s) := ⟨rfl, rfl, id⟩

theorem keeps_cfSet (c : CFlag) (b : Bool) (s : State) : Keeps s (cfSet c b s) := ⟨rfl, rfl, id⟩

theorem keeps_afterLoad (p : Place) (n : Nat) (s : State) : Keeps s (afterLoad p n s) := ⟨rfl, rfl, id⟩

theorem keeps_maintain (code : BitVec 5) (pa : Nat) (s : State) : Keeps s (maintain code pa s) := ⟨rfl, rfl, id⟩

theorem keeps_llbit (s : State) (b : Bool) : Keeps s { s with llbit := b } := ⟨rfl, rfl, id⟩

theorem keeps_waiting (s : State) (b : Bool) : Keeps s { s with waiting := b } := ⟨rfl, rfl, id⟩

theorem keeps_io (s : State) (l : List IoEvent) : Keeps s { s with io := l } := ⟨rfl, rfl, id⟩

theorem keeps_inputs (s : State) (l : List StepInput) (d : Nat) : Keeps s { s with inputs := l, draws := d } :=
  ⟨rfl, rfl, id⟩

/-- Every FCSR number writes writable bits of fcsr0 only (R48). -/
theorem fcsrMask_legal (k : BitVec 5) : onlyBits (fcsrMask k) 0x1F1F031F := by
  revert k
  decide

theorem keeps_fcsrWrite (k : BitVec 5) (v : Word) (s : State) : Keeps s (fcsrWrite k v s) := by
  refine keeps_fcsr0 fun h => ?_
  split
  · exact onlyBits_setBits h (fcsrMask_legal k) v
  · exact onlyBits_setBits h (fcsrMask_legal 0) _

theorem keeps_setFpCause (e : BitVec 5) (s : State) : Keeps s (setFpCause e s) :=
  keeps_fcsr0 fun h => onlyBits_setBits h (by decide) _

/-- The exceptions gathered fall on fcsr0.Flags (R47). -/
theorem flagBits_legal (e : BitVec 5) : onlyBits (e.setWidth 32 <<< 16) 0x1F1F031F := by
  revert e
  decide

theorem keeps_addFpFlags (e : BitVec 5) (s : State) : Keeps s (addFpFlags e s) :=
  keeps_fcsr0 fun h => onlyBits_or h (flagBits_legal e)

theorem onlyBits_entryMode (x : Exc) {w : Word} (h : onlyBits w 0x1FF) : onlyBits (entryMode x w) 0x1FF := by
  unfold entryMode
  split
  · exact onlyBits_setBits h (by decide) _
  · exact onlyBits_setBits h (by decide) _

/-- Taking an exception writes CRMD, PRMD, ESTAT, ERA, BADV and TLBEHI within their bits (R540). -/
theorem enter_csr_legal (x : Exc) (va : Word) {s : State} (h : s.csr.legal s) : (enter x va s).csr.legal s := by
  have hprmd := h.storeBits (n := 0x1) (field := 0x07) (by rw [csrLegal_prmd]; decide) s.csr.crmd
  have hcrmd := hprmd.store (n := 0x0) (onlyBits_entryMode x (h 0x0))
  have hera := hcrmd.store (n := 0x6) (onlyBits_full s.pc)
  have hestat := hera.store (n := 0x5) (v := entryStatus x s.csr.estat)
    (onlyBits_setBits (h 0x5) (by rw [csrLegal_estat]; decide) _)
  have hbadv := hestat.store (n := 0x7) (onlyBits_full (if x.recordsBadv then va else s.csr.badv))
  have htlbehi : onlyBits (enter x va s).csr.tlbehi 0xFFFFE000 := by
    rw [enter_csr_tlbehi]
    split
    · exact onlyBits_setBits (h 0x11) (by rw [csrLegal_tlbehi]; decide) va
    · exact h 0x11
  exact hbadv.store (n := 0x11) htlbehi

theorem keeps_enter (x : Exc) (va : Word) (s : State) : Keeps s (enter x va s) :=
  ⟨rfl, rfl, (keeps_csr (enter_csr_legal x va)).inv⟩

theorem onlyBits_returnMode {s : State} (h : onlyBits s.csr.crmd 0x1FF) : onlyBits (returnMode s) 0x1FF := by
  have hrestored := onlyBits_setBits h (by decide : onlyBits 0x07 0x1FF) s.csr.prmd
  unfold returnMode
  dsimp only
  split
  · exact onlyBits_setBits hrestored (by decide) _
  · exact hrestored

/-- Returning from an exception writes CRMD and LLBCTL within their bits (R498). -/
theorem exceptionReturn_csr_legal {s : State} (h : s.csr.legal s) : (exceptionReturn s).csr.legal s :=
  (h.store (n := 0x0) (onlyBits_returnMode (h 0x0))).storeBits (n := 0x60) (by rw [csrLegal_llbctl]; decide) 0

theorem keeps_exceptionReturn (s : State) : Keeps s (exceptionReturn s) :=
  ⟨rfl, rfl, (keeps_csr exceptionReturn_csr_legal).inv⟩

/-- A store writes memory in its form, or is recorded. -/
theorem keeps_storeAt {p : Place} {n : Nat} {v : DWord} {s t : State} (h : storeAt p n v s = .ok t) : Keeps s t := by
  have hwf : s.mem.wf → t.mem.wf := fun hs => storeAt_wf hs h
  rcases storeAt_ok h with ⟨_, rfl⟩ | ⟨_, rfl⟩
  · exact ⟨rfl, rfl, (keeps_mem hwf).inv⟩
  · exact ⟨rfl, rfl, id⟩

/-! Software access to the control and status registers. -/

/-- A TCFG write with En starts the timer from InitVal, which has TCFG's width (R101, R581). -/
theorem keeps_configureTimer (s : State) : Keeps s (configureTimer s) := by
  have htimer := keeps_timerVal (s := s) (v := (configureTimer s).timerVal) fun htcfg hold => by
    dsimp only [configureTimer]
    split
    · exact onlyBits_and_left htcfg _
    · exact hold
  exact ⟨rfl, rfl, htimer.inv⟩

theorem keeps_csrEffect (n : BitVec 14) (v m : Word) (s : State) : Keeps s (csrEffect n v m s) := by
  unfold csrEffect
  split
  · exact keeps_configureTimer s
  · refine keeps_csr fun h => h.store (n := 0x5) ?_
    split
    · exact onlyBits_setBits (h 0x5) (by rw [csrLegal_estat]; decide) 0
    · exact h 0x5
  · exact ⟨rfl, rfl, id⟩
  · exact .refl s

/-- A masked write changes writable bits, and has its side effects. -/
theorem keeps_csrWrite (n : BitVec 14) (v m : Word) (s : State) : Keeps s (csrWrite n v m s) := by
  unfold csrWrite
  split
  · exact .refl s
  · exact (keeps_csr fun h => h.storeBits (onlyBits_and_left (csrMask_legal n s) m) v).trans (keeps_csrEffect n v m _)

/-! The TLB and its registers. -/

/-- An address made of a VPPN has its low 13 bits 0 (R92). -/
theorem onlyBits_vppnAddress (v : BitVec 19) : onlyBits (vppnAddress v) 0xFFFFE000 := by
  have hlow : ~~~(0xFFFFE000 : Word) = (0 : BitVec 19) ++ (0x1FFF : BitVec 13) := by decide
  unfold onlyBits vppnAddress
  rw [hlow, BitVec.and_append]
  simp

/-- NE, PS and the bits between them are TLBIDX's own (R90). -/
theorem tlbidxStatus_legal (s : State) : onlyBits 0xBF000000 (csrLegal 0x10 s) := by
  have hsplit : (0xBF000000 : Word) = 0x3F000000 ||| 0x80000000 := by decide
  rw [csrLegal_tlbidx, hsplit, BitVec.or_assoc]
  exact onlyBits_or_mask_right (BitVec.and_not_self _) _

/-- The five registers TLBRD writes, each with a legal value (R491). -/
theorem Csr.legal.storeTlb {s : State} {c : Csr} (h : c.legal s) {ehi elo0 elo1 idx asid : Word}
    (hehi : onlyBits ehi (csrLegal 0x11 s)) (helo0 : onlyBits elo0 (csrLegal 0x12 s)) (helo1 : onlyBits elo1 (csrLegal 0x13 s))
    (hidx : onlyBits idx (csrLegal 0x10 s)) (hasid : onlyBits asid (csrLegal 0x18 s)) :
    Csr.legal s { c with tlbehi := ehi, tlbelo0 := elo0, tlbelo1 := elo1, tlbidx := idx, asid := asid } := by
  have h1 : Csr.legal s { c with tlbehi := ehi } := h.store (n := 0x11) hehi
  have h2 : Csr.legal s { c with tlbehi := ehi, tlbelo0 := elo0 } := h1.store (n := 0x12) helo0
  have h3 : Csr.legal s { c with tlbehi := ehi, tlbelo0 := elo0, tlbelo1 := elo1 } := h2.store (n := 0x13) helo1
  have h4 : Csr.legal s { c with tlbehi := ehi, tlbelo0 := elo0, tlbelo1 := elo1, tlbidx := idx } := h3.store (n := 0x10) hidx
  exact h4.store (n := 0x18) hasid

/-- TLBRD of an entry in use fills the registers within their bits. -/
theorem readEntry_legal (e : TlbEntry) {s : State} (h : s.csr.legal s) : (readEntry e s).legal s := by
  have hasid : onlyBits (e.asid.setWidth 32) (lowMask 10) := onlyBits_lowMask_iff.mpr (by simp; omega)
  exact h.storeTlb (onlyBits_vppnAddress _) (onlyBits_and_right _ _) (onlyBits_and_right _ _)
    (onlyBits_setBits (h 0x10) (tlbidxStatus_legal s) _) hasid

/-- So does TLBRD of an empty one. -/
theorem readEmpty_legal {s : State} (h : s.csr.legal s) : (readEmpty s).legal s :=
  h.storeTlb (onlyBits_zero _) (onlyBits_zero _) (onlyBits_zero _)
    (onlyBits_setBits (h 0x10) (tlbidxStatus_legal s) _) (onlyBits_zero _)

theorem notFound_legal (s : State) : onlyBits 0x80000000 (csrLegal 0x10 s) :=
  onlyBits_or_mask_right (BitVec.and_not_self _) _

/-- TLBSRCH writes NE, and Index on a hit (R490). -/
theorem keeps_searchedIndex (i : Nat) (s : State) :
    Keeps s { s with csr := { s.csr with tlbidx := searchedIndex i s } } := by
  refine keeps_csr fun h => h.storeBits (n := 0x10) (onlyBits_or (notFound_legal s) ?_) _
  rw [csrLegal_tlbidx, BitVec.or_assoc]
  exact onlyBits_or_mask_left (BitVec.and_not_self _) _

/-- The entry replaced holds a supported page if it is in use (R495). -/
theorem keeps_tlbSet {s : State} {e : TlbEntry} (i : Nat) (h : e.e = true → supportedPage e.ps = true) :
    Keeps s { s with tlb := s.tlb.set i e } := by
  refine keeps_tlb (by simp) fun x hx hv => ?_
  rcases List.mem_or_eq_of_mem_set hx with hold | rfl
  · exact .inl hold
  · exact .inr (h hv)

/-- INVTLB empties entries and leaves the others as they are (R494). -/
theorem keeps_invalidate (op : BitVec 5) (asid : BitVec 10) (va : Word) (s : State) :
    Keeps s { s with tlb := s.tlb.map (invalidate op asid va) } := by
  refine keeps_tlb (by simp) fun x hx hv => ?_
  obtain ⟨e, he, rfl⟩ := List.mem_map.mp hx
  unfold invalidate at hv ⊢
  split at hv
  · simp at hv
  · rename_i hn
    rw [if_neg hn]
    exact .inl he

/-! The boundary of a step. -/

/-- An agent's store changes memory within its form, LLbit and the older words. -/
theorem keeps_agentStores (cs : List AgentStore) (s : State) : Keeps s (agentStores cs s) := by
  have hmem := keeps_mem (s := s) (agentStores_wf cs)
  rw [agentStores_frame cs s]
  exact ⟨rfl, rfl, hmem.inv⟩

/-- Counting down stays within the timer's width, and so does a reload from InitVal (R582). -/
theorem tick_timerVal_fits {s : State} (htcfg : onlyBits s.csr.tcfg (lowMask s.cfg.timerN))
    (hval : onlyBits s.timerVal (lowMask s.cfg.timerN)) : onlyBits (tick s).timerVal (lowMask s.cfg.timerN) := by
  dsimp only [tick, timerTick]
  split
  · exact hval
  · split
    · rename_i hne
      rw [onlyBits_lowMask_iff] at hval ⊢
      bv_omega
    · split
      · exact onlyBits_and_left htcfg _
      · exact onlyBits_zero _

/-- A tick changes the timer within its width and ESTAT within its bits. -/
theorem keeps_tick (s : State) : Keeps s (tick s) := by
  have hestat : Keeps s { s with csr := { s.csr with estat := (tick s).csr.estat } } := by
    refine keeps_csr fun h => h.store (n := 0x5) ?_
    dsimp only [tick, timerTick]
    split
    · exact onlyBits_setBits (h 0x5) (by rw [csrLegal_estat]; decide) _
    · exact h 0x5
  have htimer := hestat.trans (keeps_timerVal (v := (tick s).timerVal) tick_timerVal_fits)
  exact ⟨rfl, rfl, htimer.inv⟩

theorem keeps_ticks (n : Nat) (s : State) : Keeps s (ticks n s) := by
  induction n generalizing s with
  | zero => exact .refl s
  | succ n ih => exact (keeps_tick s).trans (ih (tick s))

/-- The lines go to bits of ESTAT that exist (R571). -/
theorem keeps_sampleLines (hwi : BitVec 8) (ipi : Bool) (s : State) : Keeps s (sampleLines hwi ipi s) :=
  keeps_csr fun h => h.storeBits (n := 0x5) (by rw [csrLegal_estat]; decide) _

theorem keeps_boundary (s : State) : Keeps s (boundary s) := by
  have hstores := keeps_agentStores (nextInput s).agentStores s
  have hlost := hstores.trans
    (keeps_llbit _ ((agentStores (nextInput s).agentStores s).llbit && !(nextInput s).loseReservation))
  have hticks := hlost.trans (keeps_ticks (nextInput s).ticks _)
  have hlines := hticks.trans (keeps_sampleLines (nextInput s).hwi (nextInput s).ipi _)
  have hnext := hlines.trans (keeps_inputs _ s.inputs.tail (s.draws + 1))
  unfold boundary
  dsimp only
  exact hnext

/-! What an instruction's meaning keeps: of the shared operations. -/

/-- Where the meaning goes on, it keeps what a step keeps. -/
def KeepsNext (s : State) (r : Result) : Prop := ∀ t, r = .next t → Keeps s t

theorem keepsNext_next {s t : State} (h : Keeps s t) : KeepsNext s (.next t) := by
  rintro _ ⟨⟩
  exact h

theorem keepsNext_refused (s : State) (r : Refusal) : KeepsNext s (.refused r) := by
  rintro _ ⟨⟩

theorem keepsNext_trap (x : Exc) (s : State) : KeepsNext s (trap x s) := keepsNext_next (keeps_enter x 0 s)

/-- An update of the state and then the next instruction. -/
theorem keepsNext_advance {s t : State} (h : Keeps s t) : KeepsNext s (.next (advance t)) :=
  keepsNext_next (h.trans (keeps_advance t))

theorem keepsNext_putResult (rd : Reg) (v : Word) (s : State) : KeepsNext s (putResult rd v s) :=
  keepsNext_advance (keeps_gprSet rd v s)

theorem keepsNext_branchIf (c : Bool) (offset : Word) (s : State) : KeepsNext s (branchIf c offset s) := by
  unfold branchIf
  split
  · exact keepsNext_next (keeps_jumpTo _ s)
  · exact keepsNext_next (keeps_advance s)

/-- A jump that leaves a link. -/
theorem keepsNext_link (rd : Reg) (link target : Word) (s : State) :
    KeepsNext s (.next (jumpTo target (gprSet rd link s))) :=
  keepsNext_next ((keeps_gprSet rd link s).trans (keeps_jumpTo target _))

theorem keepsNext_finish {α : Type} {c : Access α} {s : State} {k : α → Result} (h : ∀ a, KeepsNext s (k a)) :
    KeepsNext s (c.finish s k) := by
  intro t ht
  rcases finish_next ht with ⟨a, _, hk⟩ | ⟨x, va, _, rfl⟩
  · exact h a t hk
  · exact keeps_enter x va s

theorem keepsNext_privileged {s : State} {k : Result} (h : KeepsNext s k) : KeepsNext s (privileged s k) := by
  intro t ht
  rcases privileged_next ht with ⟨_, hk⟩ | ⟨_, rfl⟩
  · exact h t hk
  · exact keeps_enter .IPE 0 s

theorem keepsNext_floating {double : Bool} {s : State} {k : Result} (h : KeepsNext s k) :
    KeepsNext s (floating double s k) := by
  intro t ht
  rcases floating_next ht with ⟨_, hk⟩ | rfl | rfl
  · exact h t hk
  · exact keeps_enter .INE 0 s
  · exact keeps_enter .FPD 0 s

/-- A floating-point operation: the status procedure, with a result that keeps what a step keeps. -/
theorem keepsNext_fpCommit (e : BitVec 5) (s : State) {write : State → State} (h : ∀ u, Keeps u (write u)) :
    KeepsNext s (fpCommit e s write) := by
  have hcause := keeps_setFpCause e s
  intro t ht
  rcases fpCommit_next ht with ⟨_, rfl⟩ | ⟨_, rfl⟩
  · exact ((hcause.trans (keeps_addFpFlags e _)).trans (h _)).trans (keeps_advance _)
  · exact hcause.trans (keeps_enter .FPE 0 _)

theorem keepsNext_loadThen (n : Nat) (va : Word) (s : State) {deliver : DWord → State → State}
    (h : ∀ v u, Keeps u (deliver v u)) : KeepsNext s (loadThen n va s deliver) := by
  intro t ht
  rcases loadThen_next ht with ⟨p, _, rfl⟩ | ⟨x, w, _, rfl⟩
  · exact ((keeps_afterLoad p n s).trans (h _ _)).trans (keeps_advance _)
  · exact keeps_enter x w s

theorem keepsNext_loadInto (n : Nat) (extend : DWord → Word) (rd : Reg) (va : Word) (s : State) :
    KeepsNext s (loadInto n extend rd va s) :=
  keepsNext_loadThen n va s fun v => keeps_gprSet rd (extend v)

theorem keepsNext_storeThen (n : Nat) (v : DWord) (va : Word) (s : State) : KeepsNext s (storeThen n v va s) := by
  intro t ht
  rcases storeThen_next ht with ⟨p, u, _, hu, rfl⟩ | ⟨x, w, _, rfl⟩
  · exact (keeps_storeAt hu).trans (keeps_advance u)
  · exact keeps_enter x w s

/-! What an instruction's meaning keeps: of the meanings that are their instruction's own. -/

theorem keepsNext_llW (rd rj : Reg) (si14 : BitVec 14) (s : State) : KeepsNext s (execLlW rd rj si14 s) := by
  refine keepsNext_finish fun p => keepsNext_advance ?_
  have hload : Keeps s { afterLoad p 4 s with llbit := true, lladdr := p.target.pa } := ⟨rfl, rfl, id⟩
  exact hload.trans (keeps_gprSet rd _ _)

theorem keepsNext_scW (rd rj : Reg) (si14 : BitVec 14) (s : State) : KeepsNext s (execScW rd rj si14 s) := by
  refine keepsNext_finish fun p => ?_
  split
  · intro t ht
    rcases finish_next ht with ⟨u, hu, hnext⟩ | ⟨x, va, _, rfl⟩
    · obtain ⟨p, _, hstore⟩ := bind_eq_ok.mp hu
      have hkept := (keeps_storeAt hstore).trans (keeps_llbit u (scLLbit s))
      exact keepsNext_advance (hkept.trans (keeps_gprSet rd 1 _)) t hnext
    · exact keeps_enter x va s
  · exact keepsNext_advance ((keeps_llbit s (scLLbit s)).trans (keeps_gprSet rd 0 _))

theorem keepsNext_ibar (hint : BitVec 15) (s : State) : KeepsNext s (execIbar hint s) := keepsNext_next ⟨rfl, rfl, id⟩

theorem keepsNext_csrExchange (rd : Reg) (csr : BitVec 14) (m : Word) (s : State) : KeepsNext s (csrExchange rd csr m s) :=
  keepsNext_privileged (keepsNext_advance ((keeps_csrWrite csr (gprGet rd s) m s).trans (keeps_gprSet rd _ _)))

theorem keepsNext_cacheOperation (code : BitVec 5) (va : Word) (s : State) : KeepsNext s (cacheOperation code va s) := by
  unfold cacheOperation
  split
  · split
    · refine keepsNext_finish fun a => keepsNext_advance ?_
      split
      · exact keeps_maintain code a.pa s
      · exact .refl s
    · exact keepsNext_advance (.refl s)
  · exact keepsNext_refused s _

theorem keepsNext_cacop (code : BitVec 5) (rj : Reg) (si12 : BitVec 12) (s : State) :
    KeepsNext s (execCacop code rj si12 s) := by
  unfold execCacop
  split
  · exact keepsNext_cacheOperation code _ s
  · exact keepsNext_privileged (keepsNext_cacheOperation code _ s)

theorem keepsNext_tlbsrch (s : State) : KeepsNext s (execTlbsrch s) := by
  refine keepsNext_privileged ?_
  split
  · exact keepsNext_advance (keeps_csr fun h => h.storeBits (n := 0x10) (notFound_legal s) _)
  · exact keepsNext_advance (keeps_searchedIndex _ s)
  · exact keepsNext_refused s _

theorem keepsNext_tlbrd (s : State) : KeepsNext s (execTlbrd s) := by
  refine keepsNext_privileged ?_
  split
  · rename_i e _
    refine keepsNext_advance (keeps_csr fun h => ?_)
    split
    · exact readEntry_legal e h
    · exact readEmpty_legal h
  · exact keepsNext_refused s _

theorem keepsNext_tlbWriteAt (i : Nat) (s : State) : KeepsNext s (tlbWriteAt i s) := by
  intro t ht
  obtain ⟨hpage, rfl⟩ := tlbWriteAt_next ht
  exact (keeps_tlbSet i hpage).trans (keeps_advance _)

theorem keepsNext_tlbwr (s : State) : KeepsNext s (execTlbwr s) := by
  refine keepsNext_privileged ?_
  split
  · exact keepsNext_tlbWriteAt _ s
  · exact keepsNext_refused s _

theorem keepsNext_tlbfill (s : State) : KeepsNext s (execTlbfill s) := keepsNext_privileged (keepsNext_tlbWriteAt _ s)

theorem keepsNext_invtlb (op : BitVec 5) (rj rk : Reg) (s : State) : KeepsNext s (execInvtlb op rj rk s) := by
  unfold execInvtlb
  split
  · exact keepsNext_trap .INE s
  · refine keepsNext_privileged ?_
    split
    · exact keepsNext_refused s _
    · exact keepsNext_advance (keeps_invalidate op _ _ s)

theorem keepsNext_ertn (s : State) : KeepsNext s (execErtn s) :=
  keepsNext_privileged (keepsNext_next (keeps_exceptionReturn s))

theorem keepsNext_idle (level : BitVec 15) (s : State) : KeepsNext s (execIdle level s) :=
  keepsNext_privileged (keepsNext_next ((keeps_advance s).trans (keeps_waiting _ _)))

/-! The shapes of the floating-point instructions. -/

theorem keepsNext_commitS (fd : FReg) (r : FpResult fp32.width) (s : State) : KeepsNext s (commitS fd r s) :=
  keepsNext_fpCommit r.exc s (keeps_fprSetW fd r.bits)

theorem keepsNext_commitD (fd : FReg) (r : FpResult fp64.width) (s : State) : KeepsNext s (commitD fd r s) :=
  keepsNext_fpCommit r.exc s (keeps_fprSet fd r.bits)

theorem keepsNext_compareS (cond : BitVec 5) (cd : CFlag) (fj fk : FReg) (s : State) :
    KeepsNext s (compareS cond cd fj fk s) :=
  keepsNext_floating (keepsNext_fpCommit _ s (keeps_cfSet cd _))

theorem keepsNext_compareD (cond : BitVec 5) (cd : CFlag) (fj fk : FReg) (s : State) :
    KeepsNext s (compareD cond cd fj fk s) :=
  keepsNext_floating (keepsNext_fpCommit _ s (keeps_cfSet cd _))

/-- A floating-point instruction that raises nothing of its own: one update and then the next instruction. -/
theorem keepsNext_floatMove {double : Bool} {s t : State} (h : Keeps s t) :
    KeepsNext s (floating double s (.next (advance t))) :=
  keepsNext_floating (keepsNext_advance h)

/-! The instructions and the step. -/

/-- Every instruction keeps it, by the shape of its meaning. -/
theorem keepsNext_exec (i : Instr) (s : State) : KeepsNext s (exec i s) := by
  cases i
  case rdcntid | rdcntvlW | rdcntvhW | addW | subW | slt | sltu | nor | and | or | xor | sllW | srlW | sraW | mulW
      | mulhW | mulhWu | divW | modW | divWu | modWu | slliW | srliW | sraiW | slti | sltui | addiW | andi | ori
      | xori | lu12iW | pcaddu12i =>
    exact keepsNext_putResult _ _ s
  case beq | bne | blt | bge | bltu | bgeu =>
    exact keepsNext_branchIf _ _ s
  case b =>
    exact keepsNext_next (keeps_jumpTo _ s)
  case jirl | bl =>
    exact keepsNext_link _ _ _ s
  case brk | syscall =>
    exact keepsNext_trap _ s
  case preld | dbar =>
    exact keepsNext_advance (.refl s)
  case ldB | ldH | ldW | ldBu | ldHu =>
    exact keepsNext_loadInto _ _ _ _ s
  case stB | stH | stW =>
    exact keepsNext_storeThen _ _ _ s
  case faddS | fsubS | fmulS | fdivS | fmaxS | fminS | fmaxaS | fminaS | fsqrtS | frecipS | frsqrtS | fcvtSD
      | ftintrmWS | ftintrmWD | ftintrpWS | ftintrpWD | ftintrzWS | ftintrzWD | ftintrneWS | ftintrneWD | ftintWS
      | ftintWD | ffintSW | fmaddS | fmsubS | fnmaddS | fnmsubS =>
    exact keepsNext_floating (keepsNext_commitS _ _ s)
  case faddD | fsubD | fmulD | fdivD | fmaxD | fminD | fmaxaD | fminaD | fsqrtD | frecipD | frsqrtD | fcvtDS | ffintDW
      | fmaddD | fmsubD | fnmaddD | fnmsubD =>
    exact keepsNext_floating (keepsNext_commitD _ _ s)
  case fcmpCafS | fcmpSafS | fcmpCltS | fcmpSltS | fcmpCeqS | fcmpSeqS | fcmpCleS | fcmpSleS | fcmpCunS | fcmpSunS
      | fcmpCultS | fcmpSultS | fcmpCueqS | fcmpSueqS | fcmpCuleS | fcmpSuleS | fcmpCneS | fcmpSneS | fcmpCorS
      | fcmpSorS | fcmpCuneS | fcmpSuneS =>
    exact keepsNext_compareS _ _ _ _ s
  case fcmpCafD | fcmpSafD | fcmpCltD | fcmpSltD | fcmpCeqD | fcmpSeqD | fcmpCleD | fcmpSleD | fcmpCunD | fcmpSunD
      | fcmpCultD | fcmpSultD | fcmpCueqD | fcmpSueqD | fcmpCuleD | fcmpSuleD | fcmpCneD | fcmpSneD | fcmpCorD
      | fcmpSorD | fcmpCuneD | fcmpSuneD =>
    exact keepsNext_compareD _ _ _ _ s
  case fcopysignS | fabsS | fnegS | fclassS | fmovS | movgr2frW =>
    exact keepsNext_floatMove (keeps_fprSetW _ _ s)
  case fcopysignD | fabsD | fnegD | fclassD | fmovD | movgr2frhW | movcf2fr | fsel =>
    exact keepsNext_floatMove (keeps_fprSet _ _ s)
  case movfr2grS | movfrh2grS | movfcsr2gr | movcf2gr =>
    exact keepsNext_floatMove (keeps_gprSet _ _ s)
  case movfr2cf | movgr2cf =>
    exact keepsNext_floatMove (keeps_cfSet _ _ s)
  case movgr2fcsr =>
    exact keepsNext_floatMove (keeps_fcsrWrite _ _ s)
  case bceqz | bcnez =>
    exact keepsNext_floating (keepsNext_branchIf _ _ s)
  case fldS =>
    exact keepsNext_floating (keepsNext_loadThen _ _ s fun _ u => keeps_fprSetW _ _ u)
  case fldD =>
    exact keepsNext_floating (keepsNext_loadThen _ _ s fun _ u => keeps_fprSet _ _ u)
  case fstS | fstD =>
    exact keepsNext_floating (keepsNext_storeThen _ _ _ s)
  case csrwr | csrxchg =>
    exact keepsNext_csrExchange _ _ _ s
  case csrrd =>
    exact keepsNext_privileged (keepsNext_putResult _ _ s)
  case llW rd rj si14 => exact keepsNext_llW rd rj si14 s
  case scW rd rj si14 => exact keepsNext_scW rd rj si14 s
  case ibar hint => exact keepsNext_ibar hint s
  case cacop code rj si12 => exact keepsNext_cacop code rj si12 s
  case tlbsrch => exact keepsNext_tlbsrch s
  case tlbrd => exact keepsNext_tlbrd s
  case tlbwr => exact keepsNext_tlbwr s
  case tlbfill => exact keepsNext_tlbfill s
  case invtlb op rj rk => exact keepsNext_invtlb op rj rk s
  case ertn => exact keepsNext_ertn s
  case idle level => exact keepsNext_idle level s

/-- Every step keeps it: what the boundary leaves, and then a waiting core, an exception or an instruction. -/
theorem keeps_step {s t : State} (h : step s = .next t) : Keeps s t := by
  have hawake (io : List IoEvent) : Keeps s { boundary s with waiting := false, io := io } :=
    ((keeps_boundary s).trans (keeps_waiting _ false)).trans (keeps_io _ io)
  obtain ⟨_, _, ⟨rfl, _, _⟩ | ⟨x, va, io, rfl⟩ | ⟨i, io, hexec⟩⟩ := step_next h
  · exact keeps_boundary s
  · exact (hawake io).trans (keeps_enter x va _)
  · exact (hawake io).trans (keepsNext_exec i _ t hexec)

theorem csrAbsent_congr {s t : State} (h : t.cfg = s.cfg) (n : BitVec 14) : csrAbsent n t = csrAbsent n s := by
  unfold csrAbsent
  rw [h]

/-- CPUID reads as the core number where it is not absent (R78). -/
theorem csrRead_cpuid (s : State) : csrRead 0x20 s = if csrAbsent 0x20 s then 0 else s.cfg.coreId.setWidth 32 := rfl

/-- So what CPUID reads as depends on the parameters alone. -/
theorem csrRead_cpuid_congr {s t : State} (h : t.cfg = s.cfg) : csrRead 0x20 t = csrRead 0x20 s := by
  rw [csrRead_cpuid, csrRead_cpuid, csrAbsent_congr h, h]

/-- Settles O7: the invariant is part of what every step keeps. -/
theorem invariantKept : Obligations.InvariantKept :=
  fun _ _ hinv hstep => (keeps_step hstep).inv hinv

/-- Settles O9: so are the parameters and the length of the TLB, and CPUID is read from the parameters. -/
theorem parametersKept : Obligations.ParametersKept := by
  intro s t hstep
  have hkept := keeps_step hstep
  exact ⟨hkept.cfg, hkept.tlbLength, csrRead_cpuid_congr hkept.cfg⟩

end Sys2Proof.Machine

/-! SUPPORT. Reset (R110, R601, R611), and what a control and status register reads as (R66, R481). -/

namespace Sys2Proof.Machine

/-! Reset. -/

/-- What is cut to bits of the mask has no other bit. -/
theorem onlyBits_and_of_onlyBits {m mask : Word} (h : onlyBits m mask) (w : Word) : onlyBits (w &&& m) mask := by
  rw [BitVec.and_comm]
  exact onlyBits_and_left h w

/-- Reset leaves 0 in every reserved bit, whatever was there. -/
theorem resetFrom_csrsReserved (u : State) : (State.resetFrom u).csrsReserved := by
  have hwindow : ∀ w : Word, onlyBits (w &&& 0xEE000030) 0xEE000039 := onlyBits_and_of_onlyBits (by decide)
  refine ⟨(by decide : onlyBits 0x8 0x1FF), onlyBits_and_right _ _, onlyBits_zero _, onlyBits_zero _,
    onlyBits_and_of_onlyBits (by decide) _,
    onlyBits_and_right _ _, onlyBits_and_of_onlyBits ?_ _, onlyBits_and_right _ _, onlyBits_and_right _ _,
    onlyBits_and_right _ _, onlyBits_and_right _ _, onlyBits_and_right _ _, onlyBits_and_right _ _,
    onlyBits_and_left (onlyBits_and_right _ _) _, onlyBits_zero _, onlyBits_and_right _ _, hwindow _, hwindow _⟩
  -- TLBIDX: the same three fields, named in another order.
  rw [BitVec.or_comm, ← BitVec.or_assoc]
  exact BitVec.and_not_self _

/-- Where the implementation resets its TLB, no entry is in use after it (R611). -/
theorem resetFrom_tlb_empty {u : State} (h : u.cfg.tlbReset = true) : ∀ e ∈ (State.resetFrom u).tlb, e.e = false := by
  simp [State.resetFrom, h]

/-- Where it does not, the TLB stays as it was. -/
theorem resetFrom_tlb_kept {u : State} (h : u.cfg.tlbReset = false) : (State.resetFrom u).tlb = u.tlb := by
  simp [State.resetFrom, h]

/-- The number of entries is the implementation's in either case. -/
theorem resetFrom_tlb_length (u : State) : (State.resetFrom u).tlb.length = u.tlb.length := by
  cases h : u.cfg.tlbReset <;> simp [State.resetFrom, h]

theorem resetFrom_tlbSupported {u : State} (h : u.cfg.tlbReset = true ∨ u.tlbSupported) :
    (State.resetFrom u).tlbSupported := by
  intro e he hv
  cases hr : u.cfg.tlbReset with
  | true => simp [resetFrom_tlb_empty hr e he] at hv
  | false =>
    rw [resetFrom_tlb_kept hr] at he
    exact h.elim (by simp [hr]) fun hs => hs e he hv

/-- What reset adds to a state with legal parameters is the rest of the invariant. -/
theorem resetFrom_inv {u : State} (hcfg : u.cfg.wf = true) (hmem : u.mem.wf)
    (htimer : onlyBits u.timerVal (lowMask u.cfg.timerN)) (hlen : u.tlb.length = u.cfg.tlbEntries)
    (htlb : u.cfg.tlbReset = true ∨ u.tlbSupported) : (State.resetFrom u).Inv := by
  refine ⟨hcfg, ?_, hmem, resetFrom_csrsReserved u, onlyBits_and_right _ _, htimer, (resetFrom_tlb_length u).trans hlen,
    resetFrom_tlbSupported htlb⟩
  exact Vector.getElem_set_self ..

/-- Settles O8: reset over the all-zero state is a case of reset over any. -/
theorem resetSatisfiesInvariant : Obligations.ResetSatisfiesInvariant :=
  ⟨resetFrom_inv (u := State.zero) (by decide) (by decide) (onlyBits_zero _) (by decide) (.inl rfl),
    fun u => ⟨rfl, resetFrom_tlb_length u, resetFrom_tlb_empty, resetFrom_tlb_kept, resetFrom_inv⟩⟩

/-! What a register reads as (R66, R481). -/

/-- When a number has no register behind it (R68, R99; log 65). -/
theorem csrAbsent_iff (n : BitVec 14) (s : State) : csrAbsent n s = true ↔
    n ∈ s.cfg.absentCsrs ∨ (n = 0x180 ∧ s.cfg.dmwCount = 0) ∨ (n = 0x181 ∧ s.cfg.dmwCount ≤ 1) := by
  have hfew : s.cfg.dmwCount < 2 ↔ s.cfg.dmwCount ≤ 1 := by omega
  simp [csrAbsent, hfew, or_assoc]

/-- Of an implementation that lacks no listed register, only a window can be absent. -/
theorem csrAbsent_of_none {n : BitVec 14} {s : State} (h : s.cfg.absentCsrs = []) (h0 : n ≠ 0x180) (h1 : n ≠ 0x181) :
    csrAbsent n s = false := by
  rw [← Bool.not_eq_true, csrAbsent_iff]
  rintro (hlist | ⟨hn, _⟩ | ⟨hn, _⟩)
  · simp [h] at hlist
  · exact h0 hn
  · exact h1 hn

theorem csrRead_of_absent {n : BitVec 14} {s : State} (h : csrAbsent n s = true) : csrRead n s = 0 := if_pos h

theorem csrRead_asid {s : State} (h : csrAbsent 0x18 s = false) : csrRead 0x18 s = s.csr.asid ||| 0x000A0000 :=
  if_neg (ne_true_of_eq_false h)

theorem csrRead_pgd {s : State} (h : csrAbsent 0x1B s = false) :
    csrRead 0x1B s = if s.csr.badv.getLsbD 31 then s.csr.pgdh else s.csr.pgdl :=
  if_neg (ne_true_of_eq_false h)

theorem csrRead_tval {s : State} (h : csrAbsent 0x42 s = false) : csrRead 0x42 s = timerRead s :=
  if_neg (ne_true_of_eq_false h)

theorem csrRead_llbctl {s : State} (h : csrAbsent 0x60 s = false) :
    csrRead 0x60 s = s.csr.llbctl ||| (BitVec.ofBool s.llbit).setWidth 32 :=
  if_neg (ne_true_of_eq_false h)

/-- The numbers whose value hardware composes: ASID, PGD, CPUID, TVAL, LLBCTL. -/
def composedCsrs : List (BitVec 14) := [0x18, 0x1B, 0x20, 0x42, 0x60]

/-- Every other number reads as its stored bits. -/
theorem csrRead_stored {n : BitVec 14} {s : State} (hn : n ∉ composedCsrs)
    (h : csrAbsent n s = false) : csrRead n s = csrStored n s.csr := by
  unfold csrRead
  rw [if_neg (ne_true_of_eq_false h)]
  split
  case h_6 => rfl
  all_goals exact absurd hn (by decide)

/-- Settles O10: R110's table, read off `State.resetFrom` field by field. -/
theorem resetState : Obligations.ResetState := by
  refine ⟨fun u => ⟨rfl, rfl, rfl, rfl, rfl, ?estat, ?_, ?_, ?_, ?_, ?_, ?_, rfl, rfl, resetFrom_csrsReserved u, ?ids⟩,
    State.zero, rfl⟩
  case estat => ext i hi; interval_cases i <;> simp [State.resetFrom]
  case ids =>
    intro hnone
    have hpresent (n : BitVec 14) (h0 : n ≠ 0x180) (h1 : n ≠ 0x181) : csrAbsent n (State.resetFrom u) = false :=
      csrAbsent_of_none hnone h0 h1
    refine ⟨?_, ?_⟩
    · rw [csrRead_cpuid, if_neg (ne_true_of_eq_false (hpresent 0x20 (by decide) (by decide)))]
      rfl
    · rw [csrRead_asid (hpresent 0x18 (by decide) (by decide))]
      ext i hi
      interval_cases i <;> simp [State.resetFrom]
  all_goals simp [State.resetFrom]

end Sys2Proof.Machine

/-! SUPPORT. Software reads and writes of the control and status registers (R66 to R104, R481, R501). -/

namespace Sys2Proof.Machine

/-! Bits of a word. -/

/-- Replacing bits under a mask, bit by bit (R69). -/
theorem getLsbD_setBits (r mask v : Word) {k : Nat} (hk : k < 32) :
    (setBits r mask v).getLsbD k = if mask.getLsbD k then v.getLsbD k else r.getLsbD k := by
  rw [setBits, BitVec.getLsbD_or, BitVec.getLsbD_and, BitVec.getLsbD_and, BitVec.getLsbD_not]
  cases mask.getLsbD k <;> simp [hk]

theorem getLsbD_lowMask (n k : Nat) : (lowMask n).getLsbD k = (decide (k < 32) && decide (k < n)) := by
  rw [lowMask, BitVec.getLsbD_ofNat, Nat.testBit_two_pow_sub_one]

/-- A bit outside the mask of a word that has no other bits. -/
theorem onlyBits_getLsbD_false {w mask : Word} (h : onlyBits w mask) {k : Nat} (hk : k < 32)
    (hm : mask.getLsbD k = false) : w.getLsbD k = false := by
  rw [← Bool.not_eq_true] at hm ⊢
  exact fun hw => hm (onlyBits_iff.mp h k hk hw)

/-! Numbers with no register behind them (R68, R104). -/

/-- The numbers of the registers that have storage, in the order of `Csr`'s fields. -/
def storedCsrs : List (BitVec 14) :=
  [0x0, 0x1, 0x2, 0x4, 0x5, 0x6, 0x7, 0xC, 0x10, 0x11, 0x12, 0x13, 0x18, 0x19, 0x1A, 0x30, 0x31, 0x32, 0x33, 0x40, 0x41, 0x60,
    0x88, 0x180, 0x181]

theorem csrStored_of_not_mem {n : BitVec 14} (hn : n ∉ storedCsrs) (c : Csr) : csrStored n c = 0 := by
  unfold csrStored
  split
  case h_26 => rfl
  all_goals exact absurd hn (by decide)

theorem csrStore_of_not_mem {n : BitVec 14} (hn : n ∉ storedCsrs) (v : Word) (c : Csr) : csrStore n v c = c := by
  unfold csrStore
  split
  case h_26 => rfl
  all_goals exact absurd hn (by decide)

/-- A write to a number without storage leaves its side effect alone. -/
theorem csrWrite_of_not_mem {n : BitVec 14} (hn : n ∉ storedCsrs) (hicr : n ≠ 0x44) (v m : Word) (s : State) :
    csrWrite n v m s = s := by
  have hne : ∀ k ∈ storedCsrs, n ≠ k := fun k hk e => hn (e ▸ hk)
  rw [csrWrite, csrStore_of_not_mem hn, csrEffect_other (hne 0x41 (by decide)) hicr (hne 0x60 (by decide)), ite_self]

theorem csrWrite_of_absent {n : BitVec 14} {s : State} (h : csrAbsent n s = true) (v m : Word) : csrWrite n v m s = s :=
  if_pos h

/-! The instructions that read and write them. -/

theorem privileged_at_plv0 {s : State} (h : plv s = 0) (k : Result) : privileged s k = k := if_pos h

theorem privileged_elsewhere {s : State} (h : plv s ≠ 0) (k : Result) : privileged s k = .next (enter .IPE 0 s) := if_neg h

theorem exec_csrrd (rd : Reg) (n : BitVec 14) (s : State) :
    exec (.csrrd rd n) s = privileged s (.next (advance (gprSet rd (csrRead n s) s))) := rfl

/-- An exchange with a register that reads 0 and keeps no write puts 0 in `rd` and does nothing else. -/
theorem csrExchange_of_inert {n : BitVec 14} {s : State} (hplv : plv s = 0) (hr : csrRead n s = 0)
    (hw : ∀ v m : Word, csrWrite n v m s = s) (rd : Reg) (m : Word) :
    csrExchange rd n m s = .next (advance (gprSet rd 0 s)) := by
  rw [csrExchange, privileged_at_plv0 hplv, hr, hw]

/-- Settles O35: a case for each number whose value hardware composes, one for all others with storage, one for the rest. -/
theorem csrReadResult : Obligations.CsrReadResult := by
  refine ⟨fun s rd n => ⟨fun hplv => ?_, fun hplv => ?_⟩, by decide,
    fun s => ⟨?stored, ?asid, ?pgd, ?cpuid, ?ticlr, ?llbctl,
    fun n => csrAbsent_iff n s⟩, fun s n hn => ?inert⟩
  · exact completes_gprSet (by rw [exec_csrrd, privileged_at_plv0 hplv]) rfl
  · rw [exec_csrrd, privileged_elsewhere hplv]
  case stored =>
    intro q hq hpresent
    fin_cases hq <;> exact csrRead_stored (by dsimp only; decide) hpresent
  case asid =>
    intro hpresent hreserved
    rw [csrRead_asid hpresent]
    refine BitVec.eq_of_getLsbD_eq fun i hi => ?_
    have hhigh := onlyBits_getLsbD_false (mask := 0x3FF) hreserved hi
    rw [BitVec.getLsbD_or, BitVec.getLsbD_append, BitVec.getLsbD_extractLsb', Nat.zero_add]
    revert hhigh
    interval_cases i <;> simp
  case pgd =>
    intro hpresent
    have hsign : s.csr.badv.getLsbD 31 = decide (2 ^ 31 ≤ s.csr.badv.toNat) := by
      rw [← BitVec.msb_eq_getLsbD_last s.csr.badv, BitVec.msb_eq_decide]
    simp only [csrRead_pgd hpresent, hsign, decide_eq_true_eq]
  case cpuid =>
    intro hpresent
    rw [csrRead_cpuid, if_neg (ne_true_of_eq_false hpresent)]
    exact (BitVec.setWidth_eq_append (by decide)).trans rfl
  case ticlr =>
    cases h : csrAbsent 0x44 s with
    | true => exact csrRead_of_absent h
    | false => exact csrRead_stored (by decide) h
  case llbctl =>
    intro hpresent hreserved k hk
    have hclear := onlyBits_getLsbD_false (mask := 0x4) hreserved hk
    rw [csrRead_llbctl hpresent]
    revert hclear
    interval_cases k <;> simp +contextual
  case inert =>
    obtain ⟨hr, hw⟩ : csrRead n s = 0 ∧ ∀ v m : Word, csrWrite n v m s = s := by
      cases h : csrAbsent n s with
      | true => exact ⟨csrRead_of_absent h, csrWrite_of_absent h⟩
      | false =>
        have hdef := hn.resolve_right (by simp [h])
        have hstored : n ∉ storedCsrs := fun hmem => hdef ((by decide : storedCsrs ⊆ _) hmem)
        have hcomposed : n ∉ composedCsrs := fun hmem => hdef ((by decide : composedCsrs ⊆ _) hmem)
        have hicr : n ≠ 0x44 := by rintro rfl; exact hdef (by decide)
        exact ⟨(csrRead_stored hcomposed h).trans (csrStored_of_not_mem hstored _),
          fun v m => csrWrite_of_not_mem hstored hicr v m s⟩
    refine ⟨hr, hw, fun hplv rd rj => ⟨?_, ?_⟩⟩
    · exact completes_gprSet (csrExchange_of_inert hplv hr hw rd _) rfl
    · exact completes_gprSet (csrExchange_of_inert hplv hr hw rd _) rfl

/-! Masked writes (R69). -/

theorem csrEffect_csr {n : BitVec 14} (hicr : n ≠ 0x44) (v m : Word) (s : State) : (csrEffect n v m s).csr = s.csr := by
  unfold csrEffect
  split
  case h_2 => exact absurd rfl hicr
  all_goals rfl

/-- The control and status registers after a write to any present number but TICLR. -/
theorem csrWrite_csr {n : BitVec 14} {s : State} (hpresent : csrAbsent n s = false) (hicr : n ≠ 0x44) (v m : Word) :
    (csrWrite n v m s).csr = csrStore n (setBits (csrStored n s.csr) (csrMask n s &&& m) v) s.csr := by
  rw [csrWrite, if_neg (ne_true_of_eq_false hpresent), csrEffect_csr hicr]

theorem csrStored_csrStore_self {n : BitVec 14} (hn : n ∈ storedCsrs) (v : Word) (c : Csr) :
    csrStored n (csrStore n v c) = v := by
  unfold storedCsrs at hn
  fin_cases hn <;> rfl

theorem csrStored_csrStore_ne {n k : BitVec 14} (h : k ≠ n) (v : Word) (c : Csr) :
    csrStored k (csrStore n v c) = csrStored k c :=
  (csrStored_csrStore n k v c).elim id fun hkn => absurd hkn.1 h

/-- TLBIDX: Index, PS in bits 29:24, NE in bit 31 (R90). -/
theorem getLsbD_csrMask_tlbidx (s : State) {k : Nat} (hk : k < 32) :
    (csrMask 0x10 s).getLsbD k = decide (k < s.cfg.tlbidxN ∨ (24 ≤ k ∧ k ≤ 29) ∨ k = 31) := by
  have hps : ∀ k < 32, (0x3F000000 : Word).getLsbD k = decide (24 ≤ k ∧ k ≤ 29) := by decide
  have hne : ∀ k < 32, (0x80000000 : Word).getLsbD k = decide (k = 31) := by decide
  change (lowMask s.cfg.tlbidxN ||| 0x3F000000 ||| 0x80000000).getLsbD k = _
  rw [BitVec.getLsbD_or, BitVec.getLsbD_or, getLsbD_lowMask, hps k hk, hne k hk]
  simp [hk, Bool.or_assoc]

/-- TLBELO0: the flags in bits 6:0, PPN from bit 8 to the last of a page number of PALEN bits (R93). -/
theorem getLsbD_csrMask_tlbelo0 (s : State) {k : Nat} (hk : k < 32) :
    (csrMask 0x12 s).getLsbD k = decide (k < 7 ∨ (8 ≤ k ∧ k + 4 < s.cfg.palen)) := by
  have hflags : ∀ k < 32, (0x7F : Word).getLsbD k = decide (k < 7) := by decide
  have hppn : ∀ k < 32, (0xFFFFFF00 : Word).getLsbD k = decide (8 ≤ k) := by decide
  have hpalen : k < s.cfg.palen - 4 ↔ k + 4 < s.cfg.palen := by omega
  change (0x7F ||| (0xFFFFFF00 &&& lowMask (s.cfg.palen - 4))).getLsbD k = _
  rw [BitVec.getLsbD_or, BitVec.getLsbD_and, getLsbD_lowMask, hflags k hk, hppn k hk]
  simp [hk, hpalen]

/-- Settles O36: a present register with storage is replaced under its mask, and no other is touched. -/
theorem csrMaskedWrite : Obligations.CsrMaskedWrite := by
  refine ⟨fun s => ⟨?fixed, rfl, fun k hk => ?sized⟩, fun c => rfl, fun s v m n hn => ?readonly,
    fun s n v m hpresent hicr => ⟨?written, ?frame⟩⟩
  case fixed =>
    intro q hq
    fin_cases hq <;> rfl
  case sized =>
    exact ⟨getLsbD_csrMask_tlbidx s hk, getLsbD_csrMask_tlbelo0 s hk, getLsbD_csrMask_tlbelo0 s hk,
      (getLsbD_lowMask _ _).trans (by simp [hk])⟩
  case readonly =>
    fin_cases hn <;> exact csrWrite_of_not_mem (by decide) (by decide) v m s
  case written =>
    intro hn k hk
    rw [csrWrite_csr hpresent hicr, csrStored_csrStore_self hn, getLsbD_setBits _ _ _ hk, BitVec.getLsbD_and]
  case frame =>
    intro k hk
    rw [csrWrite_csr hpresent hicr, csrStored_csrStore_ne hk]

end Sys2Proof.Machine

/-! SUPPORT. The clock, and translation by direct mode and by the windows. -/

namespace Sys2Proof.Machine

/-! The clock (R55, R582). -/

/-- The timer after a tick: counted down, at 0 reloaded or stopped. -/
theorem tick_timerVal (s : State) : (tick s).timerVal =
    if timerCounting s = false then s.timerVal
    else if s.timerVal ≠ 0 then s.timerVal - 1
    else if s.csr.tcfg.getLsbD 1 then s.csr.tcfg &&& 0xFFFFFFFC else 0 := rfl

theorem tick_timerRun (s : State) :
    (tick s).timerRun = (s.timerRun && !(timerExpires s && !s.csr.tcfg.getLsbD 1)) := rfl

theorem tick_csr (s : State) : (tick s).csr =
    { s.csr with estat := if timerExpires s then setBits s.csr.estat 0x800 0x800 else s.csr.estat } := rfl

/-- Short of its expiry a tick leaves the control and status registers and the timer's running alone. -/
theorem tick_of_not_expires {s : State} (h : timerExpires s = false) :
    (tick s).csr = s.csr ∧ (tick s).timerRun = s.timerRun := by
  rw [tick_csr, tick_timerRun, h]
  exact ⟨rfl, Bool.and_true _⟩

theorem timerExpires_iff {s : State} : timerExpires s = true ↔ timerCounting s = true ∧ s.timerVal = 0 := by
  simp [timerExpires]

theorem timerCounting_iff {s : State} : timerCounting s = true ↔ s.csr.tcfg.getLsbD 0 = true ∧ s.timerRun = true := by
  simp only [timerCounting, Bool.and_eq_true]

/-- Where the timer does not count, a tick moves the Stable Counter alone. -/
theorem tick_of_not_counting {s : State} (h : timerCounting s = false) :
    tick s = { s with counter := (tick s).counter } := by
  have hexpires : timerExpires s = false := by rw [timerExpires, h, Bool.false_and]
  obtain ⟨hcsr, hrun⟩ := tick_of_not_expires hexpires
  have hval : (tick s).timerVal = s.timerVal := if_pos h
  rw [tick_frame s, hcsr, hrun, hval]

/-- Setting one bit. -/
theorem setBits_self_mask (r mask : Word) : setBits r mask mask = r ||| mask := by
  refine BitVec.eq_of_getLsbD_eq fun k hk => ?_
  rw [getLsbD_setBits _ _ _ hk, BitVec.getLsbD_or]
  cases mask.getLsbD k <;> simp

/-- InitVal over two zeros (R101). -/
theorem toNat_and_initVal (w : Word) : (w &&& 0xFFFFFFFC).toNat = w.toNat / 4 * 4 := by
  have hshift : w &&& (0xFFFFFFFC : Word) = w >>> 2 <<< 2 := by
    ext k hk
    interval_cases k <;> simp
  rw [hshift, BitVec.toNat_shiftLeft, BitVec.toNat_ushiftRight, Nat.shiftLeft_eq, Nat.shiftRight_eq_div_pow]
  omega

/-- TVAL of a timer that counts is its value. -/
theorem timerRead_counting {s : State} (h : timerCounting s = true) : timerRead s = s.timerVal := if_pos h

/-- TVAL keeps to the timer's width where the timer does, and where it does not count (R102; log 23). -/
theorem onlyBits_timerRead {s : State} (h : timerCounting s = true → onlyBits s.timerVal (lowMask s.cfg.timerN)) :
    onlyBits (timerRead s) (lowMask s.cfg.timerN) := by
  unfold timerRead
  split
  · exact h ‹_›
  · exact onlyBits_and_right _ _

/-- Settles O39: a tick counts down, expires, or finds a timer that does not count. -/
theorem clockTick : Obligations.ClockTick := by
  intro s
  have hcounts (hen : s.csr.tcfg.getLsbD 0 = true) (hrun : s.timerRun = true) : timerCounting s = true :=
    timerCounting_iff.mpr ⟨hen, hrun⟩
  refine ⟨BitVec.toNat_add _ _, fun hen hrun => ⟨fun hne => ?running, fun h0 => ?expiring⟩, fun hoff => ?_, rfl,
    fun hen hrun hnone => ?_, fun hfits k hk => ?_⟩
  case running =>
    have hexpires : timerExpires s = false := by
      rw [← Bool.not_eq_true, timerExpires_iff]
      exact fun h => hne h.2
    obtain ⟨hcsr, hkept⟩ := tick_of_not_expires hexpires
    refine ⟨?_, hkept.trans hrun, hcsr⟩
    rw [tick_timerVal, if_neg (by simp [hcounts hen hrun]), if_pos hne]
    bv_omega
  case expiring =>
    have hexpires : timerExpires s = true := timerExpires_iff.mpr ⟨hcounts hen hrun, h0⟩
    refine ⟨?_, fun hper => ⟨?_, ?_⟩, fun hper => ?_⟩
    · rw [tick_csr, hexpires, if_pos rfl, setBits_self_mask]
    · rw [tick_timerVal, if_neg (by simp [hcounts hen hrun]), if_neg (not_not.mpr h0), if_pos hper, toNat_and_initVal]
    · rw [tick_timerRun, hrun, hper, Bool.not_true, Bool.and_false]
      rfl
    · rw [tick_timerRun, hexpires, hper]
      exact Bool.and_false _
  · refine tick_of_not_counting ?_
    rw [timerCounting, Bool.and_eq_false_iff]
    exact hoff
  · rw [csrRead_tval (csrAbsent_of_none hnone (by decide) (by decide)),
      timerRead_counting (hcounts hen hrun)]
  · have hwidth : onlyBits (csrRead 0x42 s) (lowMask s.cfg.timerN) := by
      cases habsent : csrAbsent 0x42 s with
      | true => rw [csrRead_of_absent habsent]; exact onlyBits_zero _
      | false =>
        rw [csrRead_tval habsent]
        refine onlyBits_timerRead fun hcount => onlyBits_lowMask_iff.mpr ?_
        obtain ⟨hen, hrun⟩ := timerCounting_iff.mp hcount
        exact (hfits.resolve_left (ne_false_of_eq_true hen)).resolve_left (ne_false_of_eq_true hrun)
    by_cases h32 : k < 32
    · exact onlyBits_getLsbD_false hwidth h32 (by simp [getLsbD_lowMask]; omega)
    · exact BitVec.getLsbD_of_ge _ _ (by omega)

/-! Translation without the TLB (R145, R146, R155, R157). -/

theorem translate_direct {s : State} (hda : directBit s = true) (hpg : pagingBit s = false) (k : AccessKind) (va : Word) :
    translate k va s = .ok (directTarget k va s) := by
  simp [translate, hda, hpg]

theorem translate_mapped {s : State} (hda : directBit s = false) (hpg : pagingBit s = true) (k : AccessKind) (va : Word) :
    translate k va s = mappedTranslate k va s := by
  simp [translate, hda, hpg]

theorem mem_windowTargets {va : Word} {s : State} {t : Target} :
    t ∈ windowTargets va s ↔ ∃ v ∈ windows s, windowHit v (plv s) va = true ∧ windowTarget v va s = t := by
  simp [windowTargets, and_assoc]

/-- Windows that all give one result decide, whatever the TLB holds. -/
theorem mappedTranslate_of_agree {k : AccessKind} {va : Word} {s : State} {t : Target} (ht : t ∈ windowTargets va s)
    (hall : ∀ u ∈ windowTargets va s, u = t) : mappedTranslate k va s = .ok t := by
  unfold mappedTranslate
  split
  case h_1 hnil => simp [hnil] at ht
  case h_2 u rest hcons =>
    rw [hcons] at hall
    have hu : u = t := hall u List.mem_cons_self
    rw [if_pos, hu]
    exact List.all_eq_true.mpr fun v hv => by simp [hu, hall v (List.mem_cons_of_mem u hv)]

/-- Two windows that give different results are refused (log 31). -/
theorem mappedTranslate_of_conflict {k : AccessKind} {va : Word} {s : State} {t u : Target} (ht : t ∈ windowTargets va s)
    (hu : u ∈ windowTargets va s) (hne : u ≠ t) : mappedTranslate k va s = .refuse .conflictingWindows := by
  unfold mappedTranslate
  split
  case h_1 hnil => simp [hnil] at ht
  case h_2 v rest hcons =>
    rw [if_neg]
    intro hall
    have hsame : ∀ x ∈ windowTargets va s, x = v := by
      rw [hcons]
      simpa using List.all_eq_true.mp hall
    exact hne ((hsame u hu).trans (hsame t ht).symm)

/-- The windows there are: DMW0 with one or more, DMW1 with two (log 65). -/
theorem mem_windows {w : Word} {s : State} :
    w ∈ windows s ↔ (w = s.csr.dmw0 ∧ 1 ≤ s.cfg.dmwCount) ∨ (w = s.csr.dmw1 ∧ 2 ≤ s.cfg.dmwCount) := by
  unfold windows
  match s.cfg.dmwCount with
  | 0 => simp
  | 1 => simp
  | n + 2 => simp

/-- When a window hits, in numbers (R99). -/
theorem windowHit_iff {w va : Word} {s : State} : windowHit w (plv s) va = true ↔
    va.toNat / 2 ^ 29 = w.toNat / 2 ^ 29 ∧
      ((s.csr.crmd.toNat % 4 = 0 ∧ w.getLsbD 0 = true) ∨ (s.csr.crmd.toNat % 4 = 3 ∧ w.getLsbD 3 = true)) := by
  have htop (x : Word) : (x.extractLsb' 29 3).toNat = x.toNat / 2 ^ 29 := by
    rw [BitVec.extractLsb'_toNat, Nat.shiftRight_eq_div_pow]
    omega
  have hlevel : (plv s).toNat = s.csr.crmd.toNat % 4 := by
    rw [plv, BitVec.extractLsb'_toNat, Nat.shiftRight_zero]
  simp [windowHit, BitVec.toNat_eq, htop, hlevel]

/-- What a window gives, in numbers. -/
theorem windowTarget_eq (w va : Word) (s : State) : windowTarget w va s =
    ⟨(w.toNat / 2 ^ 25 % 8 * 2 ^ 29 + va.toNat % 2 ^ 29) % 2 ^ s.cfg.palen, w.extractLsb' 4 2⟩ := by
  have hlow : va.toNat % 2 ^ 29 < 2 ^ 29 := Nat.mod_lt _ (by decide)
  simp only [windowTarget, BitVec.toNat_append, BitVec.extractLsb'_toNat, Nat.shiftRight_eq_div_pow, pow_zero, Nat.div_one]
  rw [← Nat.shiftLeft_add_eq_or_of_lt hlow, Nat.shiftLeft_eq]

/-- Settles O25: the given window is among those that hit, so agreement or conflict is with it. -/
theorem directAndWindowTranslation : Obligations.DirectAndWindowTranslation := by
  refine ⟨fun k va s hda hpg => translate_direct hda hpg k va, fun k va s w hda hpg hw htop hopen => ?_⟩
  have hhit : windowHit w (plv s) va = true := windowHit_iff.mpr ⟨htop, hopen⟩
  have hmem : windowTarget w va s ∈ windowTargets va s := mem_windowTargets.mpr ⟨w, mem_windows.mpr hw, hhit, rfl⟩
  rw [translate_mapped hda hpg, ← windowTarget_eq]
  refine ⟨fun hagree => mappedTranslate_of_agree hmem fun u hu => ?_, fun hconflict => ?_⟩
  · obtain ⟨v, hv, hvhit, rfl⟩ := mem_windowTargets.mp hu
    exact hagree v hv hvhit
  · obtain ⟨v, hv, hvhit, hne⟩ := hconflict
    exact mappedTranslate_of_conflict hmem (mem_windowTargets.mpr ⟨v, hv, hvhit, rfl⟩) hne

end Sys2Proof.Machine

/-! SUPPORT. The boundary of a step, and what another agent's store leaves. -/

namespace Sys2Proof.Machine

/-! The boundary of a step. -/

/-- Ticks leave every bit of ESTAT but TI alone (R582). -/
theorem ticks_estat (n : Nat) (s : State) {k : Nat} (hk : k < 32) (h11 : k ≠ 11) :
    (ticks n s).csr.estat.getLsbD k = s.csr.estat.getLsbD k := by
  induction n generalizing s with
  | zero => rfl
  | succ n ih =>
    have hti : ∀ k < 32, k ≠ 11 → (0x800 : Word).getLsbD k = false := by decide
    rw [ticks, ih, tick_csr]
    dsimp only
    split
    · rw [getLsbD_setBits _ _ _ hk, hti k hk h11]
      rfl
    · rfl

/-- ESTAT after the boundary: the lines in IS[9:2] and IS[12], all else as the ticks left it (R571). -/
theorem boundary_estat (s : State) : (boundary s).csr.estat =
    setBits (ticks (nextInput s).ticks s).csr.estat 0x13FC
      (((nextInput s).hwi.setWidth 32 <<< 2) ||| ((BitVec.ofBool (nextInput s).ipi).setWidth 32 <<< 12)) := by
  rw [boundary_eq]
  rfl

/-- The boundary in one record: what it changes of each field, ESTAT left to `boundary_estat`. -/
theorem boundary_frame (s : State) : ∃ w, boundary s = { s with
    csr := { s.csr with estat := w }
    counter := s.counter + BitVec.ofNat 64 (nextInput s).ticks
    timerVal := (ticks (nextInput s).ticks s).timerVal, timerRun := (ticks (nextInput s).ticks s).timerRun
    mem := (agentStores (nextInput s).agentStores s).mem, stale := (agentStores (nextInput s).agentStores s).stale
    llbit := (agentStores (nextInput s).agentStores s).llbit && !(nextInput s).loseReservation
    inputs := s.inputs.tail, draws := s.draws + 1 } := by
  obtain ⟨v, r, w, hticks⟩ : ∃ v r w, ticks (nextInput s).ticks s = { s with
      counter := s.counter + BitVec.ofNat 64 (nextInput s).ticks, timerVal := v, timerRun := r
      csr := { s.csr with estat := w } } := ⟨_, _, _, ticks_frame _ s⟩
  refine ⟨(boundary s).csr.estat, ?_⟩
  rw [boundary_estat, boundary_eq, hticks]
  rfl

/-- Where the lines do not go, the boundary leaves ESTAT as the ticks did. -/
theorem boundary_estat_unsampled (s : State) {k : Nat} (hk : k < 32) (hline : (0x13FC : Word).getLsbD k = false) :
    (boundary s).csr.estat.getLsbD k = (ticks (nextInput s).ticks s).csr.estat.getLsbD k := by
  rw [boundary_estat, getLsbD_setBits _ _ _ hk, hline]
  rfl

theorem boundary_estat_lines (s : State) : (boundary s).csr.estat.extractLsb' 2 8 = (nextInput s).hwi ∧
    (boundary s).csr.estat.getLsbD 12 = (nextInput s).ipi := by
  rw [boundary_estat]
  refine ⟨?_, ?_⟩
  · ext k hk
    rw [BitVec.getElem_extractLsb', getLsbD_setBits _ _ _ (by omega)]
    interval_cases k <;> simp
  · rw [getLsbD_setBits _ _ _ (by decide)]
    simp

/-- What the boundary leaves of ESTAT: IS[1:0], bit 10, and what is above IS. -/
theorem boundary_estat_kept (s : State) : (boundary s).csr.estat &&& 0xFFFFE403 = s.csr.estat &&& 0xFFFFE403 := by
  have houtside : ∀ k < 32, (0xFFFFE403 : Word).getLsbD k = true → (0x13FC : Word).getLsbD k = false ∧ k ≠ 11 := by decide
  refine BitVec.eq_of_getLsbD_eq fun k hk => ?_
  rw [BitVec.getLsbD_and, BitVec.getLsbD_and]
  cases hmask : (0xFFFFE403 : Word).getLsbD k with
  | false => rw [Bool.and_false, Bool.and_false]
  | true =>
    obtain ⟨hline, h11⟩ := houtside k hk hmask
    rw [boundary_estat_unsampled s hk hline, ticks_estat _ s hk h11]

/-! A store of another agent. -/

/-- An agent's store stays in the aligned word that holds its address (R138). -/
theorem AgentStore.pa_in_word (c : AgentStore) : c.pa / 4 * 4 ≤ c.pa ∧ c.pa + c.size.bytes ≤ c.pa / 4 * 4 + 4 := by
  unfold AgentStore.pa
  cases c.size <;> simp only [StoreSize.bytes] <;> omega

/-- A fetch of a word no older value is kept of sees memory. -/
theorem seenWord_of_no_older {pa : Nat} {s : State} (h : ∀ w ∈ s.stale, w.addr ≠ pa) (choice : Nat) :
    seenWord choice pa s = s.mem.word pa := by
  have hnone : s.stale.filter (fun w => w.addr = pa) = [] := by simpa using h
  rw [seenWord, fetchCandidates, hnone]
  cases choice <;> rfl

theorem seenWord_congr {pa : Nat} {s t : State} (h : fetchCandidates pa t = fetchCandidates pa s)
    (hw : t.mem.word pa = s.mem.word pa) (choice : Nat) : seenWord choice pa t = seenWord choice pa s := by
  rw [seenWord, seenWord, h, hw]

/-- Where a state's candidates are one word more than another's, a fetch sees that word or one of the others. -/
theorem seenWord_of_cons {pa : Nat} {s t : State} (h : fetchCandidates pa t = t.mem.word pa :: fetchCandidates pa s)
    (choice : Nat) : seenWord choice pa t = t.mem.word pa ∨ ∃ k, seenWord choice pa t = seenWord k pa s := by
  rw [seenWord, h]
  cases choice with
  | zero => exact .inl rfl
  | succ k =>
    by_cases hk : k < (fetchCandidates pa s).length
    · exact .inr ⟨k, by simp [seenWord, hk]⟩
    · exact .inl (by simp [hk])

theorem agentStore_llbit_eq (c : AgentStore) (s : State) :
    (agentStore c s).llbit = if c.pa / 4 = s.lladdr / 4 then false else s.llbit := by
  rw [agentStore_llbit]
  split <;> simp [*]

/-- To RAM: the bytes, and the word as it was among those a fetch may see, the older ones of that word settled. -/
theorem agentStore_ram {c : AgentStore} {s : State} (h : regionKind c.pa s = .ram) :
    (agentStore c s).mem = s.mem.write c.pa (c.value.setWidth 64) c.size.bytes ∧
    (agentStore c s).stale =
      ⟨c.pa / 4 * 4, s.mem.word (c.pa / 4 * 4), .invalidated⟩ :: settleWord (c.pa / 4 * 4) s.stale := by
  obtain ⟨_, heq⟩ | ⟨hn, _⟩ := agentStore_eq c s
  · rw [heq]
    exact ⟨rfl, rfl⟩
  · exact absurd h hn

theorem agentStore_ram_frame {c : AgentStore} {s : State} (h : regionKind c.pa s = .ram) : agentStore c s =
    { s with
      mem := (agentStore c s).mem, llbit := if c.pa / 4 = s.lladdr / 4 then false else s.llbit
      stale := ⟨c.pa / 4 * 4, s.mem.word (c.pa / 4 * 4), .invalidated⟩ :: settleWord (c.pa / 4 * 4) s.stale } := by
  rw [← agentStore_llbit_eq, ← (agentStore_ram h).2]
  rfl

theorem agentStore_elsewhere {c : AgentStore} {s : State} (h : regionKind c.pa s ≠ .ram) :
    agentStore c s = { s with llbit := if c.pa / 4 = s.lladdr / 4 then false else s.llbit } := by
  obtain ⟨hr, _⟩ | ⟨_, heq⟩ := agentStore_eq c s
  · exact absurd hr h
  · rw [← agentStore_llbit_eq, heq]

/-- The bytes an agent's store to RAM leaves: its own, the lowest first, and all others as they were. -/
theorem agentStore_byte {c : AgentStore} {s : State} (h : regionKind c.pa s = .ram) (hs : s.mem.wf) (a : Nat) :
    (agentStore c s).mem.byte a =
      if c.pa ≤ a ∧ a < c.pa + c.size.bytes then c.value.extractLsb' (8 * (a - c.pa)) 8 else s.mem.byte a := by
  rw [(agentStore_ram h).1, Memory.byte_write _ hs]
  split
  · have hfour : c.size.bytes ≤ 4 := by cases c.size <;> decide
    ext i hi
    simp only [BitVec.getElem_setWidth, BitVec.getLsbD_ushiftRight, BitVec.getLsbD_setWidth, BitVec.getElem_extractLsb']
    rw [decide_eq_true (by omega), Bool.true_and]
  · rfl

/-- An agent's store adds one word to what a fetch of its word may see. -/
theorem fetchCandidates_agentStore_same {c : AgentStore} {s : State} (h : regionKind c.pa s = .ram) :
    fetchCandidates (c.pa / 4 * 4) (agentStore c s) =
      (agentStore c s).mem.word (c.pa / 4 * 4) :: fetchCandidates (c.pa / 4 * 4) s := by
  rw [fetchCandidates, fetchCandidates, (agentStore_ram h).2, List.filter_cons_of_pos (by simp), List.map_cons,
    words_settleWord]

/-- To any other aligned word it does nothing. -/
theorem agentStore_word_other {c : AgentStore} {s : State} (h : regionKind c.pa s = .ram) (hs : s.mem.wf) {pa : Nat}
    (h4 : pa % 4 = 0) (hne : pa ≠ c.pa / 4 * 4) : (agentStore c s).mem.word pa = s.mem.word pa := by
  have hin := c.pa_in_word
  rw [Memory.word, Memory.word, (agentStore_ram h).1, Memory.read_write_outside _ hs _ _ _ _ _ (by omega)]

theorem fetchCandidates_agentStore_other {c : AgentStore} {s : State} (h : regionKind c.pa s = .ram) (hs : s.mem.wf)
    {pa : Nat} (h4 : pa % 4 = 0) (hne : pa ≠ c.pa / 4 * 4) :
    fetchCandidates pa (agentStore c s) = fetchCandidates pa s := by
  rw [fetchCandidates, fetchCandidates, (agentStore_ram h).2, agentStore_word_other h hs h4 hne,
    List.filter_cons_of_neg (by simpa using hne.symm), words_settleWord]

/-- An IBAR after it, with no CACOP, ends every older word of its word. -/
theorem ibar_after_agentStore {c : AgentStore} {s : State} (h : regionKind c.pa s = .ram) (level : BitVec 15) :
    completes (.ibar level) (agentStore c s) fun u =>
      ∀ choice, seenWord choice (c.pa / 4 * 4) u = (agentStore c s).mem.word (c.pa / 4 * 4) := by
  refine ⟨_, rfl, seenWord_of_no_older fun w hw haddr => ?_⟩
  obtain ⟨hmem, hstage⟩ := List.mem_filter.mp hw
  rw [(agentStore_ram h).2, List.mem_cons, mem_settleWord] at hmem
  obtain rfl | ⟨hother, _⟩ | ⟨_, hsettled, _⟩ := hmem
  · simp at hstage
  · exact hother haddr
  · simp [hsettled] at hstage

/-- Settles O6: the boundary field by field, then one agent's store by what the platform has at its address. -/
theorem boundaryFrame : Obligations.BoundaryFrame := by
  refine ⟨fun s => ?_, fun s => ⟨rfl, fun _ => rfl, rfl, fun _ _ => rfl⟩, ?_⟩
  · obtain ⟨hhwi, hipi⟩ := boundary_estat_lines s
    have hti := boundary_estat_unsampled s (k := 11) (by decide) (by decide)
    have hkept := boundary_estat_kept s
    obtain ⟨w, h⟩ := boundary_frame s
    generalize boundary s = b at *
    subst h
    exact ⟨rfl, rfl, ⟨rfl, rfl, rfl⟩, rfl, hkept, hhwi, hipi, hti,
      rfl, rfl, rfl, rfl, rfl, rfl, rfl, rfl, rfl, rfl, rfl, rfl, rfl⟩
  · rintro s _ c n rfl hn
    obtain rfl : n = c.size.bytes := by
      cases hsize : c.size <;> simpa [hsize, StoreSize.bytes] using hn
    obtain ⟨haligned, hle, hlt⟩ := c.pa_spec
    refine ⟨haligned, hle, hlt, fun hres => ?_, agentStore_elsewhere, fun hram hs => ⟨fun i hi => ?_, fun a ha => ?_,
      agentStore_ram_frame hram, ibar_after_agentStore hram, fun choice pa h4 => ⟨?_, fun hne => ?_⟩⟩⟩
    · rw [agentStore_llbit_eq, if_pos hres]
    · rw [agentStore_byte hram hs, if_pos (by omega), Nat.add_sub_cancel_left]
    · rw [agentStore_byte hram hs, if_neg (by omega)]
    · rintro rfl
      exact seenWord_of_cons (fetchCandidates_agentStore_same hram) choice
    · exact seenWord_congr (fetchCandidates_agentStore_other hram hs h4 hne) (agentStore_word_other hram hs h4 hne) choice

end Sys2Proof.Machine

/-! SUPPORT. Floating-point moves, loads and stores. -/

namespace Sys2Proof.Machine

/-! How an instruction that writes one register and leaves fcsr0 alone completes. -/

theorem completes_fprSetW {i : Instr} {s : State} {fd : FReg} {v : Word} (h : exec i s = .next (advance (fprSetW fd v s))) :
    completes i s fun t => wroteSingle fd v s t ∧ t.fcsr0 = s.fcsr0 := ⟨_, h, wroteSingle_fprSetW fd v s, rfl⟩

theorem completes_fprSet {i : Instr} {s : State} {fd : FReg} {v w : DWord} (h : exec i s = .next (advance (fprSet fd v s)))
    (e : v = w) : completes i s fun t => wroteDouble fd w s t ∧ t.fcsr0 = s.fcsr0 :=
  ⟨_, h, e ▸ wroteDouble_fprSet fd v s, rfl⟩

theorem completes_cfSet {i : Instr} {s : State} {cd : CFlag} {b : Bool} (h : exec i s = .next (advance (cfSet cd b s))) :
    completes i s fun t => wroteFlag cd b s t ∧ t.fcsr0 = s.fcsr0 := ⟨_, h, wroteFlag_cfSet cd b s, rfl⟩

/-! The moves (R440 to R452). -/

/-- A condition flag as a number. -/
theorem setWidth_ofBool {w : Nat} (b : Bool) : (BitVec.ofBool b).setWidth w = if b = true then 1 else 0 := by
  cases b
  · exact BitVec.setWidth_zero ..
  · exact BitVec.eq_of_toNat_eq (by simp)

/-- Replacing bits under a mask leaves those under a mask disjoint from it. -/
theorem setBits_and_of_disjoint {mask keep : Word} (h : mask &&& keep = 0) (r v : Word) :
    setBits r mask v &&& keep = r &&& keep := by
  refine BitVec.eq_of_getLsbD_eq fun k hk => ?_
  have hbit : (mask &&& keep).getLsbD k = false := by rw [h]; exact BitVec.getLsbD_zero
  rw [BitVec.getLsbD_and, Bool.and_eq_false_iff] at hbit
  rw [BitVec.getLsbD_and, BitVec.getLsbD_and, getLsbD_setBits _ _ _ hk]
  obtain hmask | hkeep := hbit
  · rw [hmask]
    rfl
  · rw [hkeep, Bool.and_false, Bool.and_false]

/-- FCSR 0 to 3 under their masks (R48). -/
theorem fcsrWrite_of_lt {k : BitVec 5} (hk : k.toNat < 4) (v : Word) (s : State) :
    fcsrWrite k v s = { s with fcsr0 := (s.fcsr0 &&& ~~~fcsrMask k) ||| (v &&& fcsrMask k) } := by
  rw [fcsrWrite, if_pos hk]
  rfl

theorem fcsrRead_of_lt {k : BitVec 5} (hk : k.toNat < 4) (s : State) : fcsrRead k s = s.fcsr0 &&& fcsrMask k := if_pos hk

/-- A number with no register leaves the reserved bits of fcsr0 alone (R447, D29). -/
theorem fcsrWrite_reserved {k : BitVec 5} (hk : 4 ≤ k.toNat) (v : Word) (s : State) :
    (fcsrWrite k v s).fcsr0 &&& 0xE0E0FCE0 = s.fcsr0 &&& 0xE0E0FCE0 := by
  rw [fcsrWrite, if_neg (by omega)]
  exact setBits_and_of_disjoint (by decide) _ _

/-- Settles O56: each move's meaning is one register write behind the availability check. -/
theorem floatMoveResult : Obligations.FloatMoveResult := by
  intro s fd fj fk rd rj cd cj num
  refine ⟨fun h => ⟨?fmovS, ?fsel, ?movgr2frW, ?movfr2grS, ?movfr2cf, ?movcf2fr, ?movgr2cf, ?movcf2gr, ?named, ?reserved⟩,
    fun h => ⟨?fmovD, ?movgr2frhW, ?movfrh2grS⟩⟩
  case fmovS => exact completes_fprSetW (floating_ready h _)
  case fsel => exact completes_fprSet (floating_ready h _) rfl
  case movgr2frW => exact completes_fprSetW (floating_ready h _)
  case movfr2grS => exact completes_gprSet (floating_ready h _) (BitVec.setWidth_eq_extractLsb' (by decide))
  case movfr2cf => exact completes_cfSet (floating_ready h _)
  case movcf2fr => exact completes_fprSet (floating_ready h _) (setWidth_ofBool _)
  case movgr2cf => exact completes_cfSet (floating_ready h _)
  case movcf2gr => exact completes_gprSet (floating_ready h _) (setWidth_ofBool _)
  case named =>
    intro q hq
    obtain ⟨hk, hmask⟩ : q.1.toNat < 4 ∧ fcsrMask q.1 = q.2 := by fin_cases hq <;> decide
    refine ⟨(floating_ready h _).trans ?_, completes_gprSet (floating_ready h _) ?_⟩
    · rw [fcsrWrite_of_lt hk, hmask]
      rfl
    · rw [fcsrRead_of_lt hk, hmask]
  case reserved =>
    exact fun hnum => ⟨⟨_, floating_ready h _, rfl, fcsrWrite_reserved hnum _ s⟩,
      _, completes_gprSet (floating_ready h _) rfl⟩
  case fmovD => exact completes_fprSet (floating_ready h _) rfl
  case movgr2frhW => exact completes_fprSet (floating_ready h _) rfl
  case movfrh2grS => exact completes_gprSet (floating_ready h _) rfl

/-! Bytes of a datum (R132). -/

/-- Byte `i` of what is read is the byte at the `i`-th address. -/
theorem Memory.extractLsb'_read (m : Memory) (a : Nat) {n i : Nat} (hi : i < n) (hn : n ≤ 8) :
    (m.read a n).extractLsb' (8 * i) 8 = m.byte (a + i) := by
  refine BitVec.eq_of_getLsbD_eq fun k hk => ?_
  have hbyte : (8 * i + k) / 8 = i := by omega
  have hbit : (8 * i + k) % 8 = k := by omega
  rw [BitVec.getLsbD_extractLsb', Memory.getLsbD_read _ _ _ _ (by omega), hbyte, hbit]
  simp [hk, show 8 * i + k < 8 * n by omega]

/-- The bytes of a datum cut to a width that holds them. -/
theorem extractLsb'_setWidth_byte {w u i : Nat} (x : BitVec w) (h : 8 * i + 8 ≤ u) :
    (x.setWidth u).extractLsb' (8 * i) 8 = x.extractLsb' (8 * i) 8 := by
  refine BitVec.eq_of_getLsbD_eq fun k hk => ?_
  rw [BitVec.getLsbD_extractLsb', BitVec.getLsbD_extractLsb', BitVec.getLsbD_setWidth, decide_eq_true (by omega : 8 * i + k < u),
    Bool.true_and]

/-- The low bytes of a floating-point register are those of the single it holds. -/
theorem extractLsb'_fprGetW {i : Nat} (hi : i < 4) (r : FReg) (s : State) :
    (fprGetW r s).extractLsb' (8 * i) 8 = (fprGet r s).extractLsb' (8 * i) 8 :=
  extractLsb'_setWidth_byte _ (by omega)

/-! Loads and stores that reach memory. -/

theorem loadValue_of_memory {p : Place} (h : p.kind ≠ .device) (n : Nat) (s : State) :
    loadValue p n s = s.mem.read p.target.pa n := if_neg h

theorem afterLoad_of_memory {p : Place} (h : p.kind ≠ .device) (n : Nat) (s : State) : afterLoad p n s = s := by
  rw [afterLoad, if_neg h]

/-- A load from memory delivers the bytes there and changes nothing else. -/
theorem loadThen_memory {n : Nat} {va : Word} {s : State} {p : Place} (hp : locate .load n va s = .ok p)
    (hk : p.kind ≠ .device) (deliver : DWord → State → State) :
    loadThen n va s deliver = .next (advance (deliver (s.mem.read p.target.pa n) s)) := by
  rw [loadThen, hp, finish_ok, loadValue_of_memory hk, afterLoad_of_memory hk]

theorem storeAt_ram {p : Place} (h : p.kind = .ram) (n : Nat) (v : DWord) (s : State) : storeAt p n v s = .ok { s with
    mem := s.mem.write p.target.pa v n
    stale := staleWords s.mem p.target.pa n (if p.target.mat = 1 then .stored else .invalidated) ++ s.stale } := by
  rw [storeAt, h]

/-- A store to RAM writes its bytes, remembers the older words and changes nothing else; only the bytes stored matter. -/
theorem storeThen_ram {n : Nat} {v w : DWord} {va : Word} {s : State} {p : Place} (hs : s.mem.wf)
    (hp : locate .store n va s = .ok p) (hk : p.kind = .ram)
    (hvw : ∀ i, i < n → v.extractLsb' (8 * i) 8 = w.extractLsb' (8 * i) 8) :
    ∃ t, storeThen n v va s = .next t ∧ storedOnly p.target n w s t := by
  have ht : storeThen n v va s = .next (advance { s with
      mem := s.mem.write p.target.pa v n
      stale := staleWords s.mem p.target.pa n (if p.target.mat = 1 then .stored else .invalidated) ++ s.stale }) := by
    rw [storeThen, hp, finish_ok, storeAt_ram hk, finish_ok]
  refine ⟨_, ht, ⟨fun i hi => ?_, fun a ha => Memory.byte_write_outside _ hs _ _ _ _ ha, rfl, rfl⟩, rfl, fun _ => rfl,
    ⟨rfl, rfl, rfl⟩, ⟨rfl, rfl, rfl, rfl⟩, ⟨rfl, rfl, rfl, rfl⟩, rfl, rfl, rfl⟩
  have hbyte := Memory.byte_write s.mem hs p.target.pa (p.target.pa + i) n v
  rw [if_pos (by omega), Nat.add_sub_cancel_left] at hbyte
  exact hbyte.trans (hvw i hi)

/-- Settles O59: a single is the low four bytes of its register, a double all eight. -/
theorem floatLoadStoreResult : Obligations.FloatLoadStoreResult := by
  intro s fd rj si12 p hs
  refine ⟨fun h hp hk => ?fldS, fun h hp hk => ?fldD, fun h hp hk => ?fstS, fun h hp hk => ?fstD⟩
  case fldS =>
    refine ⟨_, (floating_ready h _).trans (loadThen_memory hp hk _), rfl, (wroteSingle_fprSetW _ _ _).2, fun i hi => ?_⟩
    rw [← extractLsb'_fprGetW hi, (wroteSingle_fprSetW _ _ _).1, extractLsb'_setWidth_byte _ (by omega),
      Memory.extractLsb'_read _ _ hi (by omega)]
  case fldD =>
    refine ⟨_, (floating_ready h _).trans (loadThen_memory hp hk _), rfl, (wroteDouble_fprSet _ _ _).2, fun i hi => ?_⟩
    rw [(wroteDouble_fprSet _ _ _).1, Memory.extractLsb'_read _ _ hi (by omega)]
  case fstS =>
    obtain ⟨t, ht, hstored⟩ := storeThen_ram (v := (fprGetW fd s).setWidth 64) (w := fprGet fd s) hs hp hk fun i hi => by
      rw [extractLsb'_setWidth_byte _ (by omega), extractLsb'_fprGetW hi]
    exact ⟨t, (floating_ready h _).trans ht, hstored⟩
  case fstD =>
    obtain ⟨t, ht, hstored⟩ := storeThen_ram (v := fprGet fd s) hs hp hk fun _ _ => rfl
    exact ⟨t, (floating_ready h _).trans ht, hstored⟩

end Sys2Proof.Machine

/-! SUPPORT. What a floating-point datum is, over its fields (R47, R50 to R52), and the relation of two (R416). -/

namespace Sys2Proof.Machine

/-! The fields. -/

theorem signBit_eq {f : FpFormat} (x : BitVec f.width) : signBit x = x.getLsbD (f.expBits + f.fracBits) := by
  have hlast : f.width - 1 = f.expBits + f.fracBits := by unfold FpFormat.width; omega
  rw [signBit, BitVec.msb_eq_getLsbD_last, hlast]

theorem expField_eq {f : FpFormat} (x : BitVec f.width) : expField x = (x.extractLsb' f.fracBits f.expBits).toNat := by
  rw [expField, BitVec.extractLsb'_toNat, Nat.shiftRight_eq_div_pow]

theorem fracField_eq {f : FpFormat} (x : BitVec f.width) : fracField x = (x.extractLsb' 0 f.fracBits).toNat := by
  rw [fracField, BitVec.extractLsb'_toNat, Nat.shiftRight_zero]

/-- A bit of the fraction is 0 where the fraction is. -/
theorem getLsbD_of_fracField_eq_zero {f : FpFormat} {x : BitVec f.width} (h : fracField x = 0) {k : Nat}
    (hk : k < f.fracBits) : x.getLsbD k = false := by
  have hbit : (fracField x).testBit k = false := by rw [h, Nat.zero_testBit]
  rw [fracField, Nat.testBit_mod_two_pow, decide_eq_true hk, Bool.true_and] at hbit
  exact hbit

theorem isNan_iff {f : FpFormat} (x : BitVec f.width) :
    isNan x = true ↔ expField x = 2 ^ f.expBits - 1 ∧ fracField x ≠ 0 := by
  simp [isNan]

/-- A NaN with its top fraction bit set: the fraction need not be asked for (R52). -/
theorem isQNan_iff {f : FpFormat} (hf : 0 < f.fracBits) (x : BitVec f.width) :
    isQNan x = true ↔ expField x = 2 ^ f.expBits - 1 ∧ x.getLsbD (f.fracBits - 1) = true := by
  rw [isQNan, Bool.and_eq_true, isNan_iff]
  refine ⟨fun ⟨⟨he, _⟩, hq⟩ => ⟨he, hq⟩, fun ⟨he, hq⟩ => ⟨⟨he, fun hm => ?_⟩, hq⟩⟩
  rw [getLsbD_of_fracField_eq_zero hm (by omega)] at hq
  exact absurd hq (by decide)

theorem isSNan_iff {f : FpFormat} (x : BitVec f.width) : isSNan x = true ↔
    expField x = 2 ^ f.expBits - 1 ∧ fracField x ≠ 0 ∧ x.getLsbD (f.fracBits - 1) = false := by
  rw [isSNan, Bool.and_eq_true, isNan_iff, Bool.not_eq_true', and_assoc]

/-! What a datum stands for. -/

theorem qmin_eq (f : FpFormat) : f.qmin = 1 - f.emax - f.fracBits := rfl

theorem view_eq {f : FpFormat} (x : BitVec f.width) : view x =
    if expField x = 2 ^ f.expBits - 1 then (if fracField x = 0 then .inf (signBit x) else .nan)
    else if expField x = 0 then .fin (signBit x) (fracField x) (1 - f.emax - f.fracBits)
    else .fin (signBit x) (2 ^ f.fracBits + fracField x) (expField x - f.emax - f.fracBits) := by
  have hexp : f.qmin + expField x - 1 = expField x - f.emax - f.fracBits := by rw [qmin_eq]; ring
  rw [view, hexp, qmin_eq]

/-- A datum seen as a number stands for that number alone. -/
theorem standsFor_of_view_fin {f : FpFormat} {x : BitVec f.width} {neg : Bool} {m : Nat} {e : Int}
    (h : view x = .fin neg m e) (r : ℝ) : standsFor x r ↔ r = (if neg then -1 else 1) * m * 2 ^ e := by
  constructor
  · rintro ⟨n', m', e', hview, hr⟩
    obtain ⟨rfl, rfl, rfl⟩ : neg = n' ∧ m = m' ∧ e = e' := by simpa [h] using hview
    exact hr
  · exact fun hr => ⟨neg, m, e, h, hr⟩

/-- The number a datum's fields give, a significand below or from 1 on times a power of two (R50, R51). -/
theorem standsFor_iff {f : FpFormat} (x : BitVec f.width) (r : ℝ) : standsFor x r ↔
    expField x ≠ 2 ^ f.expBits - 1 ∧ r = (if signBit x then -1 else 1) *
      (if expField x = 0 then (fracField x : ℝ) / 2 ^ f.fracBits * 2 ^ (1 - f.emax)
       else (1 + fracField x / 2 ^ f.fracBits) * 2 ^ (expField x - f.emax)) := by
  have hview := view_eq x
  have hpow (a : Int) : (2 : ℝ) ^ (a - f.fracBits) = 2 ^ a / 2 ^ f.fracBits := by
    rw [zpow_sub₀ two_ne_zero, zpow_natCast]
  by_cases hones : expField x = 2 ^ f.expBits - 1
  · rw [if_pos hones] at hview
    refine ⟨fun ⟨_, _, _, hfin, _⟩ => ?_, fun h => absurd hones h.1⟩
    rw [hview] at hfin
    split at hfin <;> simp at hfin
  · rw [if_neg hones] at hview
    by_cases hzero : expField x = 0
    · rw [if_pos hzero] at hview
      rw [standsFor_of_view_fin hview, hpow, if_pos hzero, and_iff_right hones]
      ring_nf
    · rw [if_neg hzero] at hview
      rw [standsFor_of_view_fin hview, hpow, if_neg hzero, and_iff_right hones]
      have hsig : (1 : ℝ) + fracField x / 2 ^ f.fracBits = (2 ^ f.fracBits + fracField x : ℕ) / 2 ^ f.fracBits := by
        push_cast
        field_simp
      rw [hsig]
      ring_nf

/-! Edits of one bit (R365, R402, R404). -/

theorem getLsbD_quieted {f : FpFormat} (x : BitVec f.width) {k : Nat} (hk : k < f.width) :
    (quieted x).getLsbD k = (x.getLsbD k || decide (k = f.fracBits - 1)) := by
  rw [quieted, BitVec.getLsbD_or, BitVec.getLsbD_ofNat, Nat.testBit_two_pow, decide_eq_true hk, Bool.true_and]
  simp only [eq_comm]

theorem getLsbD_negated {f : FpFormat} (x : BitVec f.width) {k : Nat} (hk : k < f.width) :
    (negated x).getLsbD k = (x.getLsbD k != decide (k = f.expBits + f.fracBits)) := by
  rw [negated, BitVec.getLsbD_xor, BitVec.getLsbD_ofNat, Nat.testBit_two_pow, decide_eq_true hk, Bool.true_and]
  simp only [eq_comm, Bool.bne_eq_xor]

theorem getLsbD_magnitudeOf {f : FpFormat} (x : BitVec f.width) {k : Nat} (hk : k < f.width) :
    (magnitudeOf x).getLsbD k = (x.getLsbD k && decide (k ≠ f.expBits + f.fracBits)) := by
  have hbelow : k < f.expBits + f.fracBits ↔ k ≠ f.expBits + f.fracBits := by
    unfold FpFormat.width at hk
    omega
  rw [magnitudeOf, BitVec.getLsbD_and, BitVec.getLsbD_ofNat, Nat.testBit_two_pow_sub_one, decide_eq_true hk, Bool.true_and]
  simp only [hbelow]

/-- Settles O46: the two formats' constants, and for both the fields, the views and the edits. -/
theorem floatDataFields : Obligations.FloatDataFields := by
  refine ⟨rfl, by decide, by decide, by decide, by decide,
    fun s => ⟨rfl, BitVec.getLsbD_extractLsb' 0 5 s.fcsr0 1⟩, fun f hf x neg e m hneg he hm => ?_⟩
  have hfrac : 0 < f.fracBits := by rcases hf with rfl | rfl <;> decide
  rw [← signBit_eq] at hneg
  rw [← expField_eq] at he
  rw [← fracField_eq] at hm
  subst hneg he hm
  exact ⟨rfl, view_eq x, standsFor_iff x, isNan_iff x, isQNan_iff hfrac x, isSNan_iff x,
    fun k hk => ⟨getLsbD_quieted x hk, getLsbD_negated x hk, getLsbD_magnitudeOf x hk⟩, rfl, fun _ => rfl⟩

/-! The relation of two data (R416). -/

theorem view_eq_nan_iff {f : FpFormat} (x : BitVec f.width) : view x = .nan ↔ isNan x = true := by
  rw [isNan_iff, view]
  split
  · split <;> simp_all
  · split <;> simp_all

/-- A multiple of `2 ^ q` is the number it was scaled from. -/
theorem scaled_mul_zpow {neg : Bool} {m : Nat} {e q : Int} (h : q ≤ e) :
    (scaled neg m e q : ℝ) * 2 ^ q = (if neg then -1 else 1) * m * 2 ^ e := by
  have hpow : (2 : ℝ) ^ (e - q).toNat * 2 ^ q = 2 ^ e := by
    rw [← zpow_natCast, ← zpow_add₀ two_ne_zero, Int.toNat_of_nonneg (by omega), sub_add_cancel]
  cases neg <;> simp [scaled, mul_assoc, hpow]

/-- The relation of two integers is that of the reals they scale to. -/
theorem intRelation_of_real {a b : Int} {x y c : ℝ} (hc : 0 < c) (hx : (a : ℝ) * c = x) (hy : (b : ℝ) * c = y) :
    (intRelation a b = .lt ↔ x < y) ∧ (intRelation a b = .eq ↔ x = y) ∧ (intRelation a b = .gt ↔ y < x) := by
  subst hx hy
  rw [mul_lt_mul_iff_left₀ hc, mul_left_inj' hc.ne', mul_lt_mul_iff_left₀ hc, Int.cast_lt, Int.cast_inj, Int.cast_lt]
  unfold intRelation
  obtain h | h | h := lt_trichotomy a b
  · simp [h, h.ne, h.not_gt]
  · simp [h]
  · simp [h, h.ne', h.not_gt]

/-- Two data that stand for numbers relate as those numbers: their signed significands are compared in a common unit. -/
theorem relation_of_numbers {f : FpFormat} {x y : BitVec f.width} {a b : ℝ} (hx : standsFor x a) (hy : standsFor y b) :
    (relation x y = .lt ↔ a < b) ∧ (relation x y = .eq ↔ a = b) ∧ (relation x y = .gt ↔ b < a) := by
  obtain ⟨n1, m1, e1, hvx, rfl⟩ := hx
  obtain ⟨n2, m2, e2, hvy, rfl⟩ := hy
  have hrel : relation x y =
      intRelation (scaled n1 m1 e1 (min e1 e2)) (scaled n2 m2 e2 (min e1 e2)) := by rw [relation, hvx, hvy]
  rw [hrel]
  exact intRelation_of_real (zpow_pos two_pos _) (scaled_mul_zpow (min_le_left _ _)) (scaled_mul_zpow (min_le_right _ _))

/-- The relation seen from the other operand. -/
def FpRelation.swap : FpRelation → FpRelation
  | .un => .un
  | .eq => .eq
  | .lt => .gt
  | .gt => .lt

theorem intRelation_swap (a b : Int) : intRelation b a = (intRelation a b).swap := by
  unfold intRelation
  obtain h | h | h := lt_trichotomy a b
  · simp [h, h.ne', h.not_gt, FpRelation.swap]
  · simp [h, FpRelation.swap]
  · simp [h, h.ne', h.not_gt, FpRelation.swap]

theorem relation_swap {f : FpFormat} (x y : BitVec f.width) : relation y x = (relation x y).swap := by
  unfold relation
  match view x, view y with
  | .nan, .nan | .nan, .inf _ | .nan, .fin .. | .inf _, .nan | .fin .., .nan => rfl
  | .inf a, .inf b => cases a <;> cases b <;> rfl
  | .inf a, .fin .. | .fin .., .inf a => cases a <;> rfl
  | .fin n1 m1 e1, .fin n2 m2 e2 =>
    dsimp only
    rw [min_comm e2 e1]
    exact intRelation_swap _ _

theorem intRelation_ne_un (a b : Int) : intRelation a b ≠ .un := by
  unfold intRelation
  split
  · decide
  · split <;> decide

/-- Only a NaN is unordered. -/
theorem relation_eq_un_iff {f : FpFormat} (x y : BitVec f.width) : relation x y = .un ↔ isNan x = true ∨ isNan y = true := by
  rw [← view_eq_nan_iff, ← view_eq_nan_iff]
  unfold relation
  match view x, view y with
  | .nan, .nan | .nan, .inf _ | .nan, .fin .. | .inf _, .nan | .fin .., .nan => simp
  | .inf a, .inf b => cases a <;> cases b <;> simp
  | .inf a, .fin .. | .fin .., .inf a => cases a <;> simp
  | .fin n1 m1 e1, .fin n2 m2 e2 => simp [intRelation_ne_un]

/-- Settles O52: swapping the operands swaps the relation; the rest reads the views. -/
theorem relationOfNumbers : Obligations.RelationOfNumbers := by
  intro f hf x y
  refine ⟨relation_eq_un_iff x y, ?_, ?_, fun a b => relation_of_numbers, fun n m hx hy => ?_, fun n hx hy => ?_⟩
  · rw [relation_swap x y]
    cases relation x y <;> simp [FpRelation.swap]
  · rw [relation_swap x y]
    cases relation x y <;> simp [FpRelation.swap]
  · rw [relation, hx, hy]
  · obtain ⟨b, _, _, _, hy, _⟩ := hy
    rw [relation, hx, hy]

end Sys2Proof.Machine

/-! SUPPORT. Rounding (R364, R367 to R370): the integer a rounding mode gives, the format's numbers around it, and what makes it
the correctly rounded one. -/

namespace Sys2Proof.Machine

theorem two_zpow_of_nonneg {a : Int} (h : 0 ≤ a) : (2 : ℝ) ^ a = 2 ^ a.toNat := by
  rw [← zpow_natCast, Int.toNat_of_nonneg h]

/-! The integer a mode rounds to. -/

/-- Down: `n` for `n + r / d`. -/
theorem roundsDown_fraction {n r d : Nat} (hr : r < d) : (n : ℝ) ≤ n + r / d ∧ (n + r / d : ℝ) < n + 1 := by
  have hd : (0 : ℝ) < d := by exact_mod_cast (by omega : 0 < d)
  have hlt : (r : ℝ) / d < 1 := (div_lt_one hd).mpr (by exact_mod_cast hr)
  have hnonneg : (0 : ℝ) ≤ r / d := by positivity
  exact ⟨by linarith, by linarith⟩

/-- Up: one more where there is a fraction. -/
theorem roundsUp_fraction {n r d : Nat} (hr : r < d) :
    ((if r ≠ 0 then n + 1 else n : ℕ) : ℝ) - 1 < n + r / d ∧
      (n + r / d : ℝ) ≤ (if r ≠ 0 then n + 1 else n : ℕ) := by
  obtain ⟨_, hlt⟩ := roundsDown_fraction (n := n) hr
  by_cases h0 : r = 0
  · simp [h0]
  · have hpos : (0 : ℝ) < r / d := div_pos (by exact_mod_cast Nat.pos_of_ne_zero h0) (by exact_mod_cast (by omega : 0 < d))
    rw [if_pos h0]
    push_cast
    exact ⟨by linarith, hlt.le⟩

/-- To nearest: one more above the half, and at the half where `n` is odd. -/
theorem roundsNearest_fraction (neg : Bool) {n r d : Nat} (hr : r < d) : roundsInteger .nearestEven neg (n + r / d)
    (if decide (d < 2 * r) || (decide (2 * r = d) && decide (n % 2 = 1)) then n + 1 else n) := by
  have hd : (0 : ℝ) < d := by exact_mod_cast (by omega : 0 < d)
  obtain ⟨_, hlt_one⟩ := roundsDown_fraction (n := n) hr
  obtain hlt | heq | hgt := lt_trichotomy (2 * r) d
  · have ht : (r : ℝ) / d < 1 / 2 := by
      rw [div_lt_div_iff₀ hd two_pos]
      exact_mod_cast (by omega : r * 2 < 1 * d)
    rw [if_neg (by simp [hlt.not_gt, hlt.ne])]
    refine .inl ?_
    rwa [add_sub_cancel_left, abs_of_nonneg (by positivity)]
  · have ht : (r : ℝ) / d = 1 / 2 := by
      rw [div_eq_div_iff hd.ne' two_ne_zero]
      exact_mod_cast (by omega : r * 2 = 1 * d)
    refine .inr ?_
    rw [ht]
    obtain hn | hn := Nat.mod_two_eq_zero_or_one n
    · rw [if_neg (by simp [heq, hn])]
      exact ⟨by norm_num, hn⟩
    · rw [if_pos (by simp [heq, hn])]
      exact ⟨by push_cast; norm_num [abs_of_nonneg], by omega⟩
  · have ht : 1 / 2 < (r : ℝ) / d := by
      rw [div_lt_div_iff₀ two_pos hd]
      exact_mod_cast (by omega : 1 * d < r * 2)
    rw [if_pos (by simp [hgt])]
    refine .inl ?_
    rw [Nat.cast_add_one, add_sub_add_left_eq_sub, abs_sub_comm, abs_of_pos (by linarith)]
    linarith

/-- `m / 2 ^ sh` is rounded as its mode says. -/
theorem roundsInteger_roundShift (rm : RoundingMode) (neg : Bool) (m sh : Nat) :
    roundsInteger rm neg ((m : ℝ) / 2 ^ sh) (roundShift rm neg m sh) := by
  have hr : m % 2 ^ sh < 2 ^ sh := Nat.mod_lt _ (by positivity)
  have hx : (m : ℝ) / 2 ^ sh = (m / 2 ^ sh : ℕ) + (m % 2 ^ sh : ℕ) / (2 ^ sh : ℕ) := by
    have hm : ((2 ^ sh * (m / 2 ^ sh) + m % 2 ^ sh : ℕ) : ℝ) = m := by rw [Nat.div_add_mod]
    rw [← hm]
    push_cast
    field_simp
  rw [hx]
  cases rm with
  | nearestEven => exact roundsNearest_fraction neg hr
  | towardZero => exact roundsDown_fraction hr
  | towardPositive =>
    cases neg
    · simpa [roundsInteger, roundShift] using roundsUp_fraction hr
    · exact roundsDown_fraction hr
  | towardNegative =>
    cases neg
    · exact roundsDown_fraction hr
    · simpa [roundsInteger, roundShift] using roundsUp_fraction hr

/-- A whole number is rounded to itself. -/
theorem roundsInteger_natCast (rm : RoundingMode) (neg : Bool) (n : Nat) : roundsInteger rm neg (n : ℝ) n := by
  unfold roundsInteger
  cases rm <;> cases neg <;> simp

/-- `m * 2 ^ e` in units of `2 ^ q` is rounded as its mode says. -/
theorem roundsInteger_roundUnit (rm : RoundingMode) (neg : Bool) (m : Nat) (e q : Int) :
    roundsInteger rm neg ((m : ℝ) * 2 ^ e / 2 ^ q) (roundUnit rm neg m e q) := by
  unfold roundUnit
  split
  · have hx : (m : ℝ) * 2 ^ e / 2 ^ q = (m * 2 ^ (e - q).toNat : ℕ) := by
      rw [mul_div_assoc, ← zpow_sub₀ two_ne_zero, two_zpow_of_nonneg (by omega)]
      push_cast
      rfl
    rw [hx]
    exact roundsInteger_natCast rm neg _
  · have hx : (m : ℝ) * 2 ^ e / 2 ^ q = m / 2 ^ (q - e).toNat := by
      rw [← two_zpow_of_nonneg (by omega), zpow_sub₀ two_ne_zero, div_div_eq_mul_div]
    rw [hx]
    exact roundsInteger_roundShift rm neg m _

theorem roundsInteger_abs_le {neg : Bool} {x : ℝ} {n : Nat} (h : roundsInteger .nearestEven neg x n) : |x - n| ≤ 1 / 2 :=
  h.elim le_of_lt fun h => h.1.le

/-- In every mode the integer is less than one away. -/
theorem roundsInteger_lt_add_one {rm : RoundingMode} {neg : Bool} {x : ℝ} {n : Nat} (h : roundsInteger rm neg x n) :
    x < n + 1 := by
  cases rm <;> cases neg
  case nearestEven.false | nearestEven.true => linarith [le_abs_self (x - n), roundsInteger_abs_le h]
  all_goals
    simp only [roundsInteger, if_true, Bool.false_eq_true, if_false] at h
    linarith [h.1, h.2]

theorem roundsInteger_sub_one_lt {rm : RoundingMode} {neg : Bool} {x : ℝ} {n : Nat} (h : roundsInteger rm neg x n) :
    n - 1 < x := by
  cases rm <;> cases neg
  case nearestEven.false | nearestEven.true => linarith [neg_abs_le (x - n), roundsInteger_abs_le h]
  all_goals
    simp only [roundsInteger, if_true, Bool.false_eq_true, if_false] at h
    linarith [h.1, h.2]

/-- Rounding does not pass an integer. -/
theorem roundsInteger_ge {rm : RoundingMode} {neg : Bool} {x : ℝ} {n : Nat} (h : roundsInteger rm neg x n) {z : Int}
    (hz : (z : ℝ) ≤ x) : z ≤ n := by
  have hlt := roundsInteger_lt_add_one h
  have : (z : ℝ) < (n : ℤ) + 1 := by push_cast; linarith
  exact Int.lt_add_one_iff.mp (by exact_mod_cast this)

theorem roundsInteger_le {rm : RoundingMode} {neg : Bool} {x : ℝ} {n : Nat} (h : roundsInteger rm neg x n) {z : Int}
    (hz : x ≤ z) : n ≤ z := by
  have hlt := roundsInteger_sub_one_lt h
  have : ((n : ℤ) : ℝ) < z + 1 := by push_cast; linarith
  exact Int.lt_add_one_iff.mp (by exact_mod_cast this)

/-- So an integer is only rounded to itself. -/
theorem roundsInteger_eq {rm : RoundingMode} {neg : Bool} {n k : Nat} (h : roundsInteger rm neg (k : ℝ) n) : n = k := by
  have h1 := roundsInteger_ge h (z := k) (by simp)
  have h2 := roundsInteger_le h (z := k) (by simp)
  omega

/-- No integer is nearer than the nearest, and where another is as near the one taken is even. -/
theorem roundsInteger_nearest {neg : Bool} {x : ℝ} {n : Nat} (h : roundsInteger .nearestEven neg x n) (z : Int) :
    |n - x| ≤ |z - x| ∧ (|z - x| = |n - x| → z ≠ n → n % 2 = 0) := by
  have hhalf := roundsInteger_abs_le h
  rw [abs_sub_comm] at hhalf
  by_cases hz : z = n
  · subst hz
    exact ⟨le_of_eq (by push_cast; rfl), fun _ hne => absurd rfl hne⟩
  · have hone : (1 : ℝ) ≤ |(z : ℝ) - n| := by
      exact_mod_cast Int.one_le_abs (sub_ne_zero.mpr hz)
    have htri : |(z : ℝ) - n| ≤ |z - x| + |n - x| := by
      rw [abs_sub_comm (n : ℝ) x]
      exact abs_sub_le _ _ _
    refine ⟨by linarith, fun htie _ => ?_⟩
    rcases h with hlt | ⟨_, heven⟩
    · rw [abs_sub_comm] at hlt
      linarith
    · exact heven

/-! The numbers of a format around a rounded value, in units of its last place. -/

/-- `w` is a whole number, or of smaller magnitude than the least significand of `b + 1` bits while `x` is not: what any number
of a format with `b` fraction bits is in units of the last place of `x` rounded to it. -/
def onGrid (b : Nat) (x w : ℝ) : Prop := (∃ z : Int, w = z) ∨ (|w| < 2 ^ b ∧ 2 ^ b ≤ x)

theorem onGrid.neg {b : Nat} {x w : ℝ} (h : onGrid b x w) : onGrid b x (-w) := by
  obtain ⟨z, rfl⟩ | ⟨hlt, hle⟩ := h
  · exact .inl ⟨-z, by push_cast; rfl⟩
  · exact .inr ⟨by rwa [abs_neg], hle⟩

theorem onGrid.abs {b : Nat} {x w : ℝ} (h : onGrid b x w) : onGrid b x |w| := by
  obtain habs | habs := abs_choice w <;> rw [habs]
  · exact h
  · exact h.neg

/-- A value that reaches the least full significand is rounded to no less. -/
theorem two_pow_le_of_roundsInteger {rm : RoundingMode} {neg : Bool} {x : ℝ} {n b : Nat} (h : roundsInteger rm neg x n)
    (hb : 2 ^ b ≤ x) : 2 ^ b ≤ n := by
  exact_mod_cast roundsInteger_ge h (z := 2 ^ b) (by push_cast; exact hb)

/-- Rounding does not pass a number of the format. -/
theorem onGrid.le_rounded {rm : RoundingMode} {neg : Bool} {b n : Nat} {x w : ℝ} (hw : onGrid b x w)
    (h : roundsInteger rm neg x n) (hle : w ≤ x) : w ≤ n := by
  obtain ⟨z, rfl⟩ | ⟨hlt, hb⟩ := hw
  · exact_mod_cast roundsInteger_ge h hle
  · have hn : (2 : ℝ) ^ b ≤ n := by exact_mod_cast two_pow_le_of_roundsInteger h hb
    linarith [le_abs_self w]

theorem onGrid.rounded_le {rm : RoundingMode} {neg : Bool} {b n : Nat} {x w : ℝ} (hw : onGrid b x w)
    (h : roundsInteger rm neg x n) (hle : x ≤ w) : n ≤ w := by
  obtain ⟨z, rfl⟩ | ⟨hlt, hb⟩ := hw
  · exact_mod_cast roundsInteger_le h hle
  · linarith [le_abs_self w]

/-- No number of the format is nearer than the nearest integer, and where another is as near the integer is even. -/
theorem onGrid.nearest {neg : Bool} {b n : Nat} {x w : ℝ} (hw : onGrid b x w) (h : roundsInteger .nearestEven neg x n) :
    |n - x| ≤ |w - x| ∧ (|w - x| = |n - x| → w ≠ n → n % 2 = 0) := by
  obtain ⟨z, rfl⟩ | ⟨hlt, hb⟩ := hw
  · obtain ⟨hle, htie⟩ := roundsInteger_nearest h z
    exact ⟨hle, fun heq hne => htie heq fun hz => hne (by rw [hz]; rfl)⟩
  · have hbound := (roundsInteger_nearest h (2 ^ b)).1
    push_cast at hbound
    rw [abs_sub_comm ((2 : ℝ) ^ b), abs_of_nonneg (sub_nonneg.mpr hb)] at hbound
    have hfar : x - 2 ^ b < |w - x| := by
      rw [abs_sub_comm]
      exact lt_of_lt_of_le (by linarith [le_abs_self w]) (le_abs_self _)
    exact ⟨by linarith, fun heq => by linarith⟩

/-! The unit of the result. -/

/-- The last place of the rounded result: that of full precision, or of a subnormal number. -/
def resultUnit (f : FpFormat) (m : Nat) (e : Int) : Int := max (unboundedUnit f m e) f.qmin

theorem unboundedUnit_eq (f : FpFormat) (m : Nat) (e : Int) : unboundedUnit f m e = e + m.log2 - f.fracBits := by
  rw [unboundedUnit, FpFormat.precision]
  push_cast
  ring

theorem two_zpow_log2_le {m : Nat} (hm : 0 < m) (e : Int) : (2 : ℝ) ^ (e + m.log2) ≤ m * 2 ^ e := by
  have hlog : (2 : ℝ) ^ m.log2 ≤ m := by exact_mod_cast Nat.log2_self_le hm.ne'
  rw [add_comm, zpow_add₀ two_ne_zero, zpow_natCast]
  gcongr

theorem lt_two_zpow_log2 (m : Nat) (e : Int) : (m : ℝ) * 2 ^ e < 2 ^ (e + m.log2 + 1) := by
  have hlog : (m : ℝ) < 2 ^ (m.log2 + 1) := by exact_mod_cast Nat.lt_log2_self
  rw [add_assoc, add_comm, zpow_add₀ two_ne_zero, ← Nat.cast_succ, zpow_natCast]
  gcongr

/-- In units of at least the last place of full precision a value has at most full significands. -/
theorem lt_two_pow_of_unit_le {f : FpFormat} {m : Nat} {e q : Int} (h : unboundedUnit f m e ≤ q) :
    (m : ℝ) * 2 ^ e / 2 ^ q < 2 ^ (f.fracBits + 1) := by
  rw [unboundedUnit_eq] at h
  rw [div_lt_iff₀ (zpow_pos two_pos q), ← zpow_natCast, ← zpow_add₀ two_ne_zero]
  refine (lt_two_zpow_log2 m e).trans_le (zpow_le_zpow_right₀ one_le_two ?_)
  push_cast
  omega

/-- In units of the last place of full precision a value reaches the least full significand. -/
theorem two_pow_le_of_unit_eq {f : FpFormat} {m : Nat} (hm : 0 < m) {e q : Int} (h : q = unboundedUnit f m e) :
    2 ^ f.fracBits ≤ (m : ℝ) * 2 ^ e / 2 ^ q := by
  rw [unboundedUnit_eq] at h
  rw [le_div_iff₀ (zpow_pos two_pos q), ← zpow_natCast, ← zpow_add₀ two_ne_zero]
  exact le_trans (zpow_le_zpow_right₀ one_le_two (by omega)) (two_zpow_log2_le hm e)

/-- Every finite datum is a multiple of the least unit, with at most a full significand. -/
theorem view_fin_bounds {f : FpFormat} {y : BitVec f.width} {neg : Bool} {k : Nat} {d : Int} (h : view y = .fin neg k d) :
    k < 2 ^ (f.fracBits + 1) ∧ f.qmin ≤ d := by
  have hfrac : fracField y < 2 ^ f.fracBits := Nat.mod_lt _ (by positivity)
  have hpow : 2 ^ (f.fracBits + 1) = 2 * 2 ^ f.fracBits := pow_succ' 2 _
  unfold view at h
  split at h
  · split at h <;> simp at h
  · split at h
    · obtain ⟨_, rfl, rfl⟩ : signBit y = neg ∧ fracField y = k ∧ f.qmin = d := by simpa using h
      omega
    · obtain ⟨_, rfl, rfl⟩ : signBit y = neg ∧ 2 ^ f.fracBits + fracField y = k ∧ f.qmin + expField y - 1 = d := by
        simpa using h
      omega

/-- A finite datum in units of the last place of a rounded result. -/
theorem onGrid_of_view {f : FpFormat} {m : Nat} (hm : 0 < m) (e : Int) {y : BitVec f.width} {neg : Bool} {k : Nat} {d : Int}
    (h : view y = .fin neg k d) :
    onGrid f.fracBits (m * 2 ^ e / 2 ^ resultUnit f m e) (k * 2 ^ d / 2 ^ resultUnit f m e) := by
  obtain ⟨hk, hd⟩ := view_fin_bounds h
  by_cases hq : resultUnit f m e ≤ d
  · refine .inl ⟨k * 2 ^ (d - resultUnit f m e).toNat, ?_⟩
    rw [mul_div_assoc, ← zpow_sub₀ two_ne_zero, two_zpow_of_nonneg (by omega)]
    push_cast
    rfl
  · have hunit : resultUnit f m e = unboundedUnit f m e := by
      unfold resultUnit at hq ⊢
      omega
    refine .inr ⟨?_, two_pow_le_of_unit_eq hm hunit⟩
    have hk' : (k : ℝ) < 2 ^ (f.fracBits + 1) := by exact_mod_cast hk
    rw [abs_of_nonneg (by positivity), div_lt_iff₀ (zpow_pos two_pos _)]
    calc (k : ℝ) * 2 ^ d < 2 ^ (f.fracBits + 1) * 2 ^ d := by gcongr
      _ = 2 ^ f.fracBits * 2 ^ (d + 1) := by rw [pow_succ, zpow_add_one₀ two_ne_zero]; ring
      _ ≤ 2 ^ f.fracBits * 2 ^ resultUnit f m e := by gcongr <;> [exact one_le_two; omega]

end Sys2Proof.Machine

/-! SUPPORT. The datum a rounding delivers, and that it is the correctly rounded one (R364, R367 to R370). -/

namespace Sys2Proof.Machine

/-! A datum from its sign and its other bits. -/

theorem toNat_packFp {f : FpFormat} (neg : Bool) {mag : Nat} (h : mag < 2 ^ (f.expBits + f.fracBits)) :
    (packFp f neg mag).toNat = (if neg then 2 ^ (f.expBits + f.fracBits) else 0) + mag := by
  have hwidth : 2 ^ f.width = 2 * 2 ^ (f.expBits + f.fracBits) := by
    rw [FpFormat.width, Nat.add_assoc, pow_add, pow_one]
  rw [packFp, BitVec.toNat_ofNat, Nat.mod_eq_of_lt]
  rw [hwidth]
  split <;> omega

theorem signBit_packFp {f : FpFormat} (neg : Bool) {mag : Nat} (h : mag < 2 ^ (f.expBits + f.fracBits)) :
    signBit (packFp f neg mag) = neg := by
  have hlast : f.width - 1 = f.expBits + f.fracBits := by unfold FpFormat.width; omega
  rw [signBit, BitVec.msb_eq_decide, toNat_packFp neg h, hlast]
  cases neg <;> simp [h]

theorem fracField_packFp {f : FpFormat} (neg : Bool) {mag : Nat} (h : mag < 2 ^ (f.expBits + f.fracBits)) :
    fracField (packFp f neg mag) = mag % 2 ^ f.fracBits := by
  rw [fracField, toNat_packFp neg h, pow_add]
  cases neg <;> simp

theorem expField_packFp {f : FpFormat} (neg : Bool) {mag : Nat} (h : mag < 2 ^ (f.expBits + f.fracBits)) :
    expField (packFp f neg mag) = mag / 2 ^ f.fracBits := by
  have hexp : mag / 2 ^ f.fracBits < 2 ^ f.expBits := by
    rw [Nat.div_lt_iff_lt_mul (by positivity), ← pow_add]
    exact h
  rw [expField, toNat_packFp neg h, pow_add]
  cases neg
  · simp [Nat.mod_eq_of_lt hexp]
  · rw [if_pos rfl, Nat.mul_comm, Nat.mul_add_div (by positivity), Nat.add_mod_left, Nat.mod_eq_of_lt hexp]

/-- `k` in units of `2 ^ (qmin + j)`, packed by adding `j` to the exponent field: a significand that fills its place, or one
carried into the next exponent, or a subnormal number. -/
theorem view_packFp {f : FpFormat} (neg : Bool) {j k : Nat} (hk : k ≤ 2 ^ (f.fracBits + 1)) (hj : j = 0 ∨ 2 ^ f.fracBits ≤ k)
    (hfin : j * 2 ^ f.fracBits + k < infMagnitude f) :
    ∃ k' d, view (packFp f neg (j * 2 ^ f.fracBits + k)) = .fin neg k' d ∧ (k' : ℝ) * 2 ^ d = k * 2 ^ (f.qmin + j) := by
  have hpos : 0 < 2 ^ f.fracBits := by positivity
  have hpow : 2 ^ (f.fracBits + 1) = 2 * 2 ^ f.fracBits := pow_succ' 2 _
  have hmag : j * 2 ^ f.fracBits + k < 2 ^ (f.expBits + f.fracBits) := by
    refine hfin.trans_le ?_
    rw [infMagnitude, pow_add]
    exact Nat.mul_le_mul_right _ (Nat.sub_le _ _)
  have hones : (j * 2 ^ f.fracBits + k) / 2 ^ f.fracBits ≠ 2 ^ f.expBits - 1 :=
    ((Nat.div_lt_iff_lt_mul hpos).mpr hfin).ne
  rw [view, expField_packFp neg hmag, fracField_packFp neg hmag, signBit_packFp neg hmag, if_neg hones]
  rw [add_comm (j * _) k, Nat.add_mul_div_right _ _ hpos, Nat.add_mul_mod_self_right]
  obtain hsub | hfull | rfl : k < 2 ^ f.fracBits ∨ (2 ^ f.fracBits ≤ k ∧ k < 2 ^ (f.fracBits + 1)) ∨
      k = 2 ^ (f.fracBits + 1) := by
    omega
  · obtain rfl : j = 0 := hj.resolve_right (by omega)
    rw [Nat.div_eq_of_lt hsub, Nat.mod_eq_of_lt hsub, if_pos rfl]
    exact ⟨_, _, rfl, by simp⟩
  · have hquot : k / 2 ^ f.fracBits = 1 := Nat.div_eq_of_lt_le (by omega) (by omega)
    have hrem : 2 ^ f.fracBits + k % 2 ^ f.fracBits = k := by
      have := Nat.div_add_mod k (2 ^ f.fracBits)
      rwa [hquot, mul_one] at this
    rw [hquot, hrem, if_neg (by omega)]
    refine ⟨_, _, rfl, ?_⟩
    congr 2
    push_cast
    ring
  · rw [hpow, Nat.mul_div_cancel _ hpos, Nat.mul_mod_left, if_neg (by omega)]
    refine ⟨_, _, rfl, ?_⟩
    have hexp : f.qmin + ((2 + j : ℕ) : ℤ) - 1 = f.qmin + j + 1 := by
      push_cast
      ring
    rw [hexp, zpow_add_one₀ two_ne_zero]
    push_cast
    ring

/-- The last bit of a datum is that of its fraction. -/
theorem getLsbD_zero_packFp {f : FpFormat} (hf : 0 < f.fracBits) (neg : Bool) {j k : Nat} (hk : k % 2 = 0) :
    (packFp f neg (j * 2 ^ f.fracBits + k)).getLsbD 0 = false := by
  obtain ⟨b, hb⟩ : ∃ b, f.fracBits = b + 1 := ⟨f.fracBits - 1, by omega⟩
  have heven : ((if neg then 2 ^ (f.expBits + f.fracBits) else 0) + (j * 2 ^ f.fracBits + k)) % 2 = 0 := by
    have hsign : 2 ^ (f.expBits + f.fracBits) % 2 = 0 := by rw [hb, ← add_assoc, pow_succ, Nat.mul_mod_left]
    have hshift : j * 2 ^ f.fracBits % 2 = 0 := by rw [hb, pow_succ, ← mul_assoc, Nat.mul_mod_left]
    split <;> omega
  rw [packFp, BitVec.getLsbD_ofNat, Nat.testBit_zero, heven]
  simp

/-! The rounded result. -/

/-- A value is a whole number of units exactly where its rounding to them is exact (R370). -/
theorem inexactAt_eq_false_iff (rm : RoundingMode) (neg : Bool) (m : Nat) (e q : Int) :
    inexactAt m e q = false ↔ (roundUnit rm neg m e q : ℝ) * 2 ^ q = m * 2 ^ e := by
  have hround := roundsInteger_roundUnit rm neg m e q
  have hunits : (roundUnit rm neg m e q : ℝ) * 2 ^ q = m * 2 ^ e ↔ (m : ℝ) * 2 ^ e / 2 ^ q = roundUnit rm neg m e q := by
    rw [div_eq_iff (zpow_ne_zero _ two_ne_zero), eq_comm]
  rw [hunits]
  by_cases h : e < q
  · have hx : (m : ℝ) * 2 ^ e / 2 ^ q = m / 2 ^ (q - e).toNat := by
      rw [← two_zpow_of_nonneg (by omega), zpow_sub₀ two_ne_zero, div_div_eq_mul_div]
    have hinexact : inexactAt m e q = false ↔ 2 ^ (q - e).toNat ∣ m := by
      simp [inexactAt, h, Nat.dvd_iff_mod_eq_zero]
    rw [hx] at hround ⊢
    rw [hinexact]
    constructor
    · rintro ⟨n, rfl⟩
      have hn : ((2 ^ (q - e).toNat * n : ℕ) : ℝ) / 2 ^ (q - e).toNat = n := by
        push_cast
        field_simp
      rw [hn] at hround ⊢
      rw [roundsInteger_eq hround]
    · intro heq
      rw [div_eq_iff (by positivity)] at heq
      exact ⟨roundUnit rm neg m e q, by exact_mod_cast heq.trans (mul_comm _ _)⟩
  · have hx : (m : ℝ) * 2 ^ e / 2 ^ q = (m * 2 ^ (e - q).toNat : ℕ) := by
      rw [mul_div_assoc, ← zpow_sub₀ two_ne_zero, two_zpow_of_nonneg (by omega)]
      push_cast
      rfl
    rw [hx] at hround ⊢
    simp [inexactAt, h, roundsInteger_eq hround]

/-- I is bit 0 of the exceptions, whatever U is. -/
theorem getLsbD_zero_exc (u i : Bool) : ((if u then excU else 0) ||| (if i then excI else 0) : BitVec 5).getLsbD 0 = i := by
  cases u <;> cases i <;> rfl

/-- A rounding that raises no overflow: below the format's greatest exponent, packed, with I where inexact. -/
theorem roundFp_of_no_overflow {f : FpFormat} {env : FpEnv} {neg : Bool} {m : Nat} (hm : 0 < m) {e : Int}
    (h : (roundFp f env neg m e).exc.getLsbD 2 = false) :
    unboundedExponent f env.rm neg m e ≤ f.emax ∧
    (roundFp f env neg m e).bits = packFp f neg
      ((resultUnit f m e - f.qmin).toNat * 2 ^ f.fracBits + roundUnit env.rm neg m e (resultUnit f m e)) ∧
    (roundFp f env neg m e).exc.getLsbD 0 = inexactAt m e (resultUnit f m e) := by
  rw [roundFp, if_neg hm.ne', roundNonzero] at h ⊢
  dsimp only at h ⊢
  split at h
  · revert h
    simp
  · rename_i htop
    rw [if_neg htop]
    exact ⟨by omega, rfl, getLsbD_zero_exc _ _⟩

/-- The exponent of a rounded value: that of its unit's full significand, or one more after a carry. -/
theorem unboundedExponent_eq (f : FpFormat) (rm : RoundingMode) (neg : Bool) (m : Nat) (e : Int) :
    unboundedExponent f rm neg m e = unboundedUnit f m e + f.fracBits +
      if roundUnit rm neg m e (unboundedUnit f m e) = 2 ^ (f.fracBits + 1) then 1 else 0 := by
  have hprec : f.precision = f.fracBits + 1 := rfl
  unfold unboundedExponent
  simp only [hprec]
  split <;> push_cast <;> ring

/-- In units of at least the last place of full precision a value is rounded to at most a carry above full significands. -/
theorem roundUnit_le {f : FpFormat} {m : Nat} {e q : Int} (h : unboundedUnit f m e ≤ q) (rm : RoundingMode) (neg : Bool) :
    roundUnit rm neg m e q ≤ 2 ^ (f.fracBits + 1) := by
  have hle := roundsInteger_le (roundsInteger_roundUnit rm neg m e q) (z := 2 ^ (f.fracBits + 1))
    (by push_cast; exact (lt_two_pow_of_unit_le h).le)
  exact_mod_cast hle

/-- What does not overflow is below the infinity of its sign. -/
theorem magnitude_lt_infMagnitude {f : FpFormat} (he : 2 ≤ f.expBits) {rm : RoundingMode} {neg : Bool} {m : Nat} {e : Int}
    (htop : unboundedExponent f rm neg m e ≤ f.emax) :
    (resultUnit f m e - f.qmin).toNat * 2 ^ f.fracBits + roundUnit rm neg m e (resultUnit f m e) < infMagnitude f := by
  have hexp : (2 : Int) ^ f.expBits = 2 * 2 ^ (f.expBits - 1) := by
    rw [← pow_succ', Nat.sub_add_cancel (by omega)]
  have hfour : (2 : Int) ^ 2 ≤ 2 ^ f.expBits := pow_le_pow_right₀ one_le_two he
  have hqmin : f.qmin = 2 - 2 ^ (f.expBits - 1) - f.fracBits := by
    rw [qmin_eq, FpFormat.emax]
    ring
  rw [FpFormat.emax] at htop
  have hcast : ((2 ^ f.expBits : ℕ) : ℤ) = 2 ^ f.expBits := by push_cast; rfl
  have hpow : 2 ^ (f.fracBits + 1) = 2 * 2 ^ f.fracBits := pow_succ' 2 _
  have hpos : 0 < 2 ^ f.fracBits := by positivity
  have hk := roundUnit_le (f := f) (m := m) (e := e) (le_max_left _ f.qmin) rm neg
  rw [infMagnitude]
  unfold resultUnit
  obtain hsub | hfull := lt_or_ge (unboundedUnit f m e) f.qmin
  · rw [max_eq_right hsub.le] at hk ⊢
    have hthree : 3 * 2 ^ f.fracBits ≤ (2 ^ f.expBits - 1) * 2 ^ f.fracBits := Nat.mul_le_mul_right _ (by omega)
    rw [sub_self, Int.toNat_zero, zero_mul]
    omega
  · rw [max_eq_left hfull] at hk ⊢
    generalize hj : (unboundedUnit f m e - f.qmin).toNat = j
    rw [unboundedExponent_eq] at htop
    by_cases hcarry : roundUnit rm neg m e (unboundedUnit f m e) = 2 ^ (f.fracBits + 1)
    · rw [if_pos hcarry] at htop
      have hroom : (j + 2 + 1) * 2 ^ f.fracBits ≤ (2 ^ f.expBits - 1) * 2 ^ f.fracBits :=
        Nat.mul_le_mul_right _ (by omega)
      rw [hcarry, hpow]
      linarith
    · rw [if_neg hcarry] at htop
      have hroom : (j + 2) * 2 ^ f.fracBits ≤ (2 ^ f.expBits - 1) * 2 ^ f.fracBits :=
        Nat.mul_le_mul_right _ (by omega)
      have hlt := hk.lt_of_ne hcarry
      rw [hpow] at hlt
      linarith

/-! The correctly rounded value. -/

/-- The number of a sign whose magnitude is `a` units. -/
def signedUnits (neg : Bool) (u a : ℝ) : ℝ := (if neg then -1 else 1) * (a * u)

theorem abs_signedUnits (neg : Bool) {u : ℝ} (hu : 0 < u) (a : ℝ) : |signedUnits neg u a| = |a| * u := by
  cases neg <;> simp [signedUnits, abs_mul, abs_of_pos hu]

theorem signedUnits_sub (neg : Bool) (u a b : ℝ) : signedUnits neg u a - signedUnits neg u b = signedUnits neg u (a - b) := by
  unfold signedUnits
  ring

theorem signedUnits_le_iff (neg : Bool) {u : ℝ} (hu : 0 < u) (a b : ℝ) :
    signedUnits neg u a ≤ signedUnits neg u b ↔ if neg then b ≤ a else a ≤ b := by
  cases neg <;> simp [signedUnits, hu]

/-- Each directed mode rounds to its side. -/
theorem roundsInteger_side {neg : Bool} {x u : ℝ} {n : Nat} {rm : RoundingMode} (hu : 0 < u) (hx : 0 ≤ x)
    (h : roundsInteger rm neg x n) :
    (rm = .towardZero → |signedUnits neg u n| ≤ |signedUnits neg u x|) ∧
    (rm = .towardPositive → signedUnits neg u x ≤ signedUnits neg u n) ∧
    (rm = .towardNegative → signedUnits neg u n ≤ signedUnits neg u x) := by
  rw [abs_signedUnits neg hu, abs_signedUnits neg hu, mul_le_mul_iff_left₀ hu, Nat.abs_cast, abs_of_nonneg hx,
    signedUnits_le_iff neg hu, signedUnits_le_iff neg hu]
  refine ⟨?_, ?_, ?_⟩ <;> rintro rfl
  · exact h.1
  · cases neg
    · exact h.2
    · exact h.1
  · cases neg
    · exact h.1
    · exact h.2

/-- What correct rounding asks against a number `w` of the format: none between in the directed modes, to nearest none nearer,
with ties to even. -/
theorem roundsInteger_optimal {neg : Bool} {x u w : ℝ} {n b : Nat} {rm : RoundingMode} (hu : 0 < u) (hx : 0 ≤ x)
    (h : roundsInteger rm neg x n) (hw : onGrid b x w) :
    (|signedUnits neg u w| ≤ |signedUnits neg u x| → |signedUnits neg u w| ≤ |signedUnits neg u n|) ∧
    (signedUnits neg u x ≤ signedUnits neg u w → signedUnits neg u n ≤ signedUnits neg u w) ∧
    (signedUnits neg u w ≤ signedUnits neg u x → signedUnits neg u w ≤ signedUnits neg u n) ∧
    (rm = .nearestEven → |signedUnits neg u n - signedUnits neg u x| ≤ |signedUnits neg u w - signedUnits neg u x| ∧
      (|signedUnits neg u w - signedUnits neg u x| = |signedUnits neg u n - signedUnits neg u x| →
        signedUnits neg u w ≠ signedUnits neg u n → n % 2 = 0)) := by
  simp only [signedUnits_sub, abs_signedUnits neg hu, signedUnits_le_iff neg hu, mul_le_mul_iff_left₀ hu,
    mul_left_inj' hu.ne', Nat.abs_cast, abs_of_nonneg hx]
  refine ⟨hw.abs.le_rounded h, ?_, ?_, ?_⟩
  · cases neg
    · exact hw.rounded_le h
    · exact hw.le_rounded h
  · cases neg
    · exact hw.le_rounded h
    · exact hw.rounded_le h
  · rintro rfl
    obtain ⟨hnear, htie⟩ := hw.nearest h
    exact ⟨hnear, fun heq hne => htie heq fun hwn => hne (by rw [hwn])⟩

theorem signedUnits_inj (neg : Bool) {u : ℝ} (hu : 0 < u) (a b : ℝ) :
    signedUnits neg u a = signedUnits neg u b ↔ a = b := by
  cases neg <;> simp [signedUnits, hu.ne']

/-- A number of any sign, as units of another sign. -/
theorem eq_signedUnits (neg : Bool) {u : ℝ} (hu : 0 < u) (w : ℝ) :
    w = signedUnits neg u ((if neg then -1 else 1) * (w / u)) := by
  cases neg <;> simp [signedUnits, hu.ne']

theorem onGrid.signed {b : Nat} {x w : ℝ} (h : onGrid b x w) (neg : Bool) : onGrid b x ((if neg then -1 else 1) * w) := by
  cases neg
  · simpa using h
  · simpa using h.neg

/-- A value in units of the last place of its rounded result. -/
theorem eq_signedUnits_resultUnit (f : FpFormat) (neg : Bool) (m : Nat) (e : Int) :
    (if neg then -1 else 1 : ℝ) * m * 2 ^ e =
      signedUnits neg (2 ^ resultUnit f m e) (m * 2 ^ e / 2 ^ resultUnit f m e) := by
  rw [signedUnits, div_mul_cancel₀ _ (zpow_ne_zero _ two_ne_zero), mul_assoc]

theorem cast_number (neg : Bool) (k : Nat) (d : Int) :
    (((if neg then -1 else 1) * k * 2 ^ d : ℚ) : ℝ) = (if neg then -1 else 1) * k * 2 ^ d := by
  cases neg <;> simp

/-- The datum a rounding without overflow delivers is finite and stands for the rounded number of units. -/
theorem view_roundFp {f : FpFormat} (he : 2 ≤ f.expBits) {env : FpEnv} {neg : Bool} {m : Nat} (hm : 0 < m) {e : Int}
    (h : (roundFp f env neg m e).exc.getLsbD 2 = false) :
    ∃ k d, view (roundFp f env neg m e).bits = .fin neg k d ∧
      (k : ℝ) * 2 ^ d = roundUnit env.rm neg m e (resultUnit f m e) * 2 ^ resultUnit f m e := by
  obtain ⟨htop, hbits, _⟩ := roundFp_of_no_overflow hm h
  have hround := roundsInteger_roundUnit env.rm neg m e (resultUnit f m e)
  have hunit : f.qmin + ((resultUnit f m e - f.qmin).toNat : Int) = resultUnit f m e := by
    have := le_max_right (unboundedUnit f m e) f.qmin
    unfold resultUnit
    omega
  have hfull : (resultUnit f m e - f.qmin).toNat = 0 ∨ 2 ^ f.fracBits ≤ roundUnit env.rm neg m e (resultUnit f m e) := by
    obtain hq | hq := max_choice (unboundedUnit f m e) f.qmin
    · exact .inr (two_pow_le_of_roundsInteger hround (two_pow_le_of_unit_eq hm hq))
    · exact .inl (by rw [resultUnit, hq, sub_self, Int.toNat_zero])
  rw [hbits]
  have hview := view_packFp neg (roundUnit_le (q := resultUnit f m e) (le_max_left _ _) env.rm neg) hfull
    (magnitude_lt_infMagnitude he htop)
  rwa [hunit] at hview

/-- Settles O54: in units of the result's last place the result is an integer, and every number of the format is one or too small
to be nearer. -/
theorem correctRounding : Obligations.CorrectRounding := by
  intro f hf env neg m e x hm hx hexc
  obtain ⟨hfrac, hexp⟩ : 0 < f.fracBits ∧ 2 ≤ f.expBits := by rcases hf with rfl | rfl <;> decide
  obtain ⟨htop, hbits, hinexact⟩ := roundFp_of_no_overflow hm hexc
  obtain ⟨k, d, hview, hvalue⟩ := view_roundFp hexp hm hexc
  have hround := roundsInteger_roundUnit env.rm neg m e (resultUnit f m e)
  have hu : (0 : ℝ) < 2 ^ resultUnit f m e := zpow_pos two_pos _
  have hx0 : (0 : ℝ) ≤ m * 2 ^ e / 2 ^ resultUnit f m e := by positivity
  have hxr : (x : ℝ) = signedUnits neg (2 ^ resultUnit f m e) (m * 2 ^ e / 2 ^ resultUnit f m e) := by
    rw [← eq_signedUnits_resultUnit, hx, cast_number]
  obtain ⟨v, hv⟩ : ∃ v : ℚ, v = (if neg then -1 else 1 : ℚ) * k * 2 ^ d := ⟨_, rfl⟩
  have hvr : (v : ℝ) = signedUnits neg (2 ^ resultUnit f m e) (roundUnit env.rm neg m e (resultUnit f m e)) := by
    rw [signedUnits, ← hvalue, hv, cast_number, mul_assoc]
  obtain ⟨hzero, hpos, hneg⟩ := roundsInteger_side hu hx0 hround
  rw [← hxr, ← hvr] at hzero hpos hneg
  refine ⟨k, d, v, hview, hv, ?_, by exact_mod_cast hzero, by exact_mod_cast hpos, by exact_mod_cast hneg,
    fun y n' k' d' w hy hw => ?_⟩
  · rw [hinexact, inexactAt_eq_false_iff env.rm neg, ← Rat.cast_inj (α := ℝ), hxr, hvr, signedUnits_inj neg hu,
      eq_div_iff hu.ne']
  · have hwr : (w : ℝ) / 2 ^ resultUnit f m e = (if n' then -1 else 1) * (k' * 2 ^ d' / 2 ^ resultUnit f m e) := by
      rw [hw, cast_number, mul_assoc, mul_div_assoc]
    have hgrid := ((onGrid_of_view hm e hy).signed n').signed neg
    rw [← hwr] at hgrid
    obtain ⟨hwzero, hwpos, hwneg, hnear⟩ := roundsInteger_optimal hu hx0 hround hgrid
    rw [← eq_signedUnits neg hu, ← hxr, ← hvr] at hwzero hwpos hwneg hnear
    refine ⟨fun _ => by exact_mod_cast hwzero, fun _ => by exact_mod_cast hwpos, fun _ => by exact_mod_cast hwneg,
      fun hrm => ⟨by exact_mod_cast (hnear hrm).1, fun htie hne => ?_⟩⟩
    rw [hbits]
    exact getLsbD_zero_packFp hfrac neg ((hnear hrm).2 (by exact_mod_cast htie) (by exact_mod_cast hne))

end Sys2Proof.Machine

/-! SUPPORT. Accesses that fail, whatever the instruction (R320). -/

namespace Sys2Proof.Machine

/-! Accesses, up to their target. -/

theorem finish_bind {α β : Type} (c : Access α) (f : α → Access β) (s : State) (k : β → Result) :
    (c.bind f).finish s k = c.finish s fun a => (f a).finish s k := by
  cases c <;> rfl

theorem resolve_misaligned {n : Nat} {va : Word} (h : va.toNat % n ≠ 0) (k : AccessKind) (s : State) :
    resolve k n va s = .raise .ALE va := if_pos h

theorem resolve_aligned {n : Nat} {va : Word} (h : va.toNat % n = 0) (k : AccessKind) (s : State) :
    resolve k n va s = (translate k va s).bind typed := if_neg (by simp [h])

theorem typed_reserved {t : Target} (h : 2 ≤ t.mat.toNat) : typed t = .refuse .reservedAccessType := if_neg (by omega)

theorem placed_nothing {t : Target} {s : State} (h : regionKind t.pa s = .nothing) :
    placed t s = .refuse (.nothingAtAddress t.pa) := if_pos h

/-- The instruction is an access: all it does waits for its target, and, where `anyPlace` does not hold, for something to be
there (R320). -/
def accesses (i : Instr) (k : AccessKind) (n : Nat) (va : Word) (anyPlace : Prop) (s : State) : Prop :=
  ∃ c : Target → Result, exec i s = (resolve k n va s).finish s c ∧
    (¬ anyPlace → ∀ t, regionKind t.pa s = .nothing → c t = .refused (.nothingAtAddress t.pa))

theorem accesses_of_locate {i : Instr} {k : AccessKind} {n : Nat} {va : Word} {s : State} {c : Place → Result}
    (h : exec i s = (locate k n va s).finish s c) (anyPlace : Prop) : accesses i k n va anyPlace s :=
  ⟨fun t => (placed t s).finish s c, h.trans (finish_bind _ _ s c), fun _ t ht => by
    dsimp only
    rw [placed_nothing ht, finish_refuse]⟩

theorem accesses_of_floating {i : Instr} {double : Bool} {k : AccessKind} {n : Nat} {va : Word} {s : State} {c : Place → Result}
    (h : exec i s = floating double s ((locate k n va s).finish s c)) (hready : floatReady double s) (anyPlace : Prop) :
    accesses i k n va anyPlace s :=
  accesses_of_locate (h.trans (floating_ready hready _)) anyPlace

theorem accesses_of_resolveReserved {i : Instr} {k : AccessKind} {va : Word} {s : State} {c : Target → Result}
    {anyPlace : Prop} (h : exec i s = (resolveReserved k va s).finish s c) (hany : anyPlace) :
    accesses i k 4 va anyPlace s :=
  ⟨_, h.trans (finish_bind _ _ s c), fun hn => absurd hany hn⟩

/-- An access fails as its target does: alignment first, then translation, then the access type, then what is there. -/
theorem accesses_fail {i : Instr} {k : AccessKind} {n : Nat} {va : Word} {anyPlace : Prop} {s : State}
    (h : accesses i k n va anyPlace s) :
    (va.toNat % n ≠ 0 → exec i s = .next (enter .ALE va s)) ∧
    (va.toNat % n = 0 →
      (∀ x w, translate k va s = .raise x w → exec i s = .next (enter x w s)) ∧
      (∀ r, translate k va s = .refuse r → exec i s = .refused r) ∧
      (∀ target, translate k va s = .ok target →
        (2 ≤ target.mat.toNat → exec i s = .refused .reservedAccessType) ∧
        (target.mat.toNat < 2 → regionKind target.pa s = .nothing → ¬ anyPlace →
          exec i s = .refused (.nothingAtAddress target.pa)))) := by
  obtain ⟨c, hexec, hnothing⟩ := h
  rw [hexec]
  refine ⟨fun hmis => by rw [resolve_misaligned hmis, finish_raise], fun hal => ?_⟩
  rw [resolve_aligned hal]
  refine ⟨fun x w ht => by rw [ht, bind_raise, finish_raise], fun r ht => by rw [ht, bind_refuse, finish_refuse],
    fun t ht => ?_⟩
  rw [ht, bind_ok]
  exact ⟨fun hmat => by rw [typed_reserved hmat, finish_refuse],
    fun hmat hk hplace => by rw [typed_eq_ok.mpr ⟨rfl, hmat⟩, finish_ok, hnothing hplace t hk]⟩

/-- Settles O22: every one of the fourteen instructions waits for its target. -/
theorem accessException : Obligations.AccessException := by
  intro s rd rj fd si12 si14 q hq k n va hk hn hva hready
  subst hk hn hva
  have h : accesses q.1 q.2.1 q.2.2.1 q.2.2.2.1 (q.1 = .llW rd rj si14 ∨ q.1 = .scW rd rj si14) s := by
    revert q
    repeat rw [List.forall_mem_cons]
    refine ⟨?ldB, ?ldBu, ?ldH, ?ldHu, ?ldW, ?stB, ?stH, ?stW, ?llW, ?scW, ?fldS, ?fldD, ?fstS, ?fstD, ?none⟩
    case ldB | ldBu | ldH | ldHu | ldW | stB | stH | stW => exact fun _ => accesses_of_locate rfl _
    case llW => exact fun _ => accesses_of_resolveReserved (finish_bind _ _ s _) (.inl rfl)
    case scW => exact fun _ => accesses_of_resolveReserved rfl (.inr rfl)
    case fldS | fstS => exact fun h => accesses_of_floating rfl (h false rfl) _
    case fldD | fstD => exact fun h => accesses_of_floating rfl (h true rfl) _
    case none => simp
  obtain ⟨hmisaligned, haligned⟩ := accesses_fail h
  refine ⟨hmisaligned, fun hal => ?_⟩
  obtain ⟨hraise, hrefuse, htarget⟩ := haligned hal
  refine ⟨hraise, hrefuse, fun t ht => ⟨(htarget t ht).1, fun hmat hk hll hsc => ?_⟩⟩
  exact (htarget t ht).2 hmat hk (by simp [hll, hsc])

end Sys2Proof.Machine

/-! SUPPORT. Integer loads and stores, and accesses to a device. -/

namespace Sys2Proof.Machine

/-! Addresses, and bytes as words (R132, R150, R205). -/

theorem address12_eq (rj : Reg) (i : BitVec 12) (s : State) :
    address12 rj i s = BitVec.ofInt 32 ((gprGet rj s).toInt + i.toInt) := by
  rw [BitVec.ofInt_add, BitVec.ofInt_toInt]
  rfl

/-- The lowest address holds the lowest byte, and the bytes after it stand above it. -/
theorem Memory.setWidth_read_succ (m : Memory) (a n : Nat) {w : Nat} (hw : w + 8 ≤ 64) :
    (m.read a (n + 1)).setWidth (w + 8) = (m.read (a + 1) n).setWidth w ++ m.byte a := by
  refine BitVec.eq_of_getLsbD_eq fun i hi => ?_
  rw [Memory.read, BitVec.getLsbD_setWidth, BitVec.getLsbD_or, BitVec.getLsbD_shiftLeft, BitVec.getLsbD_setWidth,
    BitVec.getLsbD_append, BitVec.getLsbD_setWidth]
  by_cases h8 : i < 8
  · simp [h8, hi, show i < 64 by omega]
  · have hhigh : (m.byte a).getLsbD i = false := BitVec.getLsbD_of_ge _ _ (by omega)
    simp [h8, hi, hhigh, show i < 64 by omega, show i - 8 < w by omega]

theorem Memory.setWidth_read_one (m : Memory) (a : Nat) : (m.read a 1).setWidth 8 = m.byte a := by
  simp [Memory.read]

theorem Memory.setWidth_read_two (m : Memory) (a : Nat) : (m.read a 2).setWidth 16 = m.byte (a + 1) ++ m.byte a := by
  rw [← m.setWidth_read_one (a + 1)]
  exact m.setWidth_read_succ a 1 (w := 8) (by decide)

/-- The word at an address, from its bytes. -/
theorem Memory.setWidth_read_four (m : Memory) (a : Nat) :
    (m.read a 4).setWidth 32 = m.byte (a + 3) ++ m.byte (a + 2) ++ m.byte (a + 1) ++ m.byte a := by
  rw [← m.setWidth_read_two (a + 2), ← m.setWidth_read_succ (a + 1) 2 (w := 16) (by decide)]
  exact m.setWidth_read_succ a 3 (w := 24) (by decide)

/-! Loads into a general register, and stores. -/

/-- A load from memory into a general register, r0 included. -/
theorem completes_loadInto {i : Instr} {n : Nat} {extend : DWord → Word} {rd : Reg} {va v : Word} {s : State} {p : Place}
    (h : exec i s = loadInto n extend rd va s) (hp : locate .load n va s = .ok p) (hk : p.kind ≠ .device)
    (hv : extend (s.mem.read p.target.pa n) = v) : completes i s (wroteGpr rd v s) :=
  completes_gprSet (h.trans (loadThen_memory hp hk _)) hv

/-- Settles O19: each load delivers the bytes of its width, extended. -/
theorem loadResult : Obligations.LoadResult := by
  intro s rd rj si12 p hk
  refine ⟨address12_eq rj si12 s, fun hp => ⟨?ldB, ?ldBu⟩, fun hp => ⟨?ldH, ?ldHu⟩, fun hp => ?ldW⟩
  case ldB =>
    refine completes_loadInto rfl hp hk ?_
    rw [signByte, Memory.setWidth_read_one]
    rfl
  case ldBu =>
    refine completes_loadInto rfl hp hk ?_
    rw [zeroByte, Memory.setWidth_read_one, BitVec.ofNat_toNat]
  case ldH =>
    refine completes_loadInto rfl hp hk ?_
    rw [signHalf, Memory.setWidth_read_two]
    rfl
  case ldHu =>
    refine completes_loadInto rfl hp hk ?_
    rw [zeroHalf, Memory.setWidth_read_two, BitVec.ofNat_toNat]
  case ldW => exact completes_loadInto rfl hp hk (s.mem.setWidth_read_four _)

/-- Settles O20: the three stores are one store of `rd`'s low bytes; the older words are those of `staleWords`. -/
theorem storeResult : Obligations.StoreResult := by
  refine ⟨fun s rd rj si12 hs => ?_, fun m pa n stage hn ha => ⟨by simp [staleWords], mem_staleWords hn ha⟩⟩
  repeat rw [List.forall_mem_cons]
  refine ⟨?stB, ?stH, ?stW, ?none⟩
  case stB | stH | stW => exact fun p hp hk => storeThen_ram hs hp hk fun _ _ => rfl
  case none => simp

/-! Accesses to a device (R140, R143; log 9, 64). -/

/-- Cutting a datum to `n` bytes. -/
theorem toNat_and_lowBytes (v : DWord) {n : Nat} (hn : n ≤ 8) :
    (v &&& BitVec.ofNat 64 (2 ^ (8 * n) - 1)).toNat = v.toNat % 2 ^ (8 * n) := by
  have hle : 2 ^ (8 * n) ≤ 2 ^ 64 := Nat.pow_le_pow_right (by decide) (by omega)
  rw [BitVec.toNat_and, BitVec.toNat_ofNat, Nat.mod_eq_of_lt (by omega), Nat.and_two_pow_sub_one_eq_mod]

/-- A device answers a datum of the access's width. -/
theorem loadValue_of_device {p : Place} (h : p.kind = .device) {n : Nat} (hn : n ≤ 8) (s : State) :
    (loadValue p n s).toNat < 2 ^ (8 * n) := by
  rw [loadValue, if_pos h, toNat_and_lowBytes _ hn]
  exact Nat.mod_lt _ (by positivity)

theorem afterLoad_of_device {p : Place} (h : p.kind = .device) (n : Nat) (s : State) :
    afterLoad p n s = { s with io := ⟨false, p.target.pa, n, loadValue p n s⟩ :: s.io } := by
  rw [afterLoad, if_pos h]

/-- A load from a device delivers the datum it records. -/
theorem loadThen_device {n : Nat} {va : Word} {s : State} {p : Place} (hp : locate .load n va s = .ok p)
    (hk : p.kind = .device) (hn : n ≤ 8) : ∃ d : DWord, d.toNat < 2 ^ (8 * n) ∧ ∀ deliver, loadThen n va s deliver =
      .next (advance (deliver d { s with io := ⟨false, p.target.pa, n, d⟩ :: s.io })) :=
  ⟨loadValue p n s, loadValue_of_device hk hn s, fun deliver => by rw [loadThen, hp, finish_ok, afterLoad_of_device hk]⟩

/-- A load from a device into a general register. -/
theorem completes_loadInto_device {i : Instr} {n : Nat} {extend value : DWord → Word} {rd : Reg} {va : Word} {s : State}
    {p : Place} (h : exec i s = loadInto n extend rd va s) (hn : n ≤ 8)
    (hv : ∀ d : DWord, d.toNat < 2 ^ (8 * n) → extend d = value d) (hk : p.kind = .device)
    (hp : locate .load n va s = .ok p) :
    ∃ d : DWord, d.toNat < 2 ^ (8 * n) ∧ completes i s fun t =>
      t.io = ⟨false, p.target.pa, n, d⟩ :: s.io ∧ wroteGpr rd (value d) s { t with io := s.io } := by
  obtain ⟨d, hd, hload⟩ := loadThen_device hp hk hn
  exact ⟨d, hd, _, h.trans (hload _), rfl, hv d hd ▸ wroteGpr_gprSet rd (extend d) s⟩

theorem storeAt_device {p : Place} (h : p.kind = .device) {n : Nat} (hn : n ≤ 8) (v : DWord) (s : State) :
    storeAt p n v s = .ok { s with
      io := ⟨true, p.target.pa, n, BitVec.ofNat 64 (v.toNat % 2 ^ (8 * n))⟩ :: s.io } := by
  rw [← toNat_and_lowBytes v hn, BitVec.ofNat_toNat, BitVec.setWidth_eq, storeAt, h]

theorem storeAt_rom {p : Place} (h : p.kind = .rom) (n : Nat) (v : DWord) (s : State) :
    storeAt p n v s = .refuse (.storeToRom p.target.pa) := by
  rw [storeAt, h]

/-- What a store does where there is no RAM: a device records it, ROM refuses it. -/
theorem store_outside_ram {i : Instr} {n : Nat} {v : DWord} {va : Word} {s : State} {p : Place}
    (h : exec i s = storeThen n v va s) (hn : n ≤ 8) (hp : locate .store n va s = .ok p) :
    (p.kind = .device → exec i s = .next { s with
      pc := s.pc + 4, io := ⟨true, p.target.pa, n, BitVec.ofNat 64 (v.toNat % 2 ^ (8 * n))⟩ :: s.io }) ∧
    (p.kind = .rom → exec i s = .refused (.storeToRom p.target.pa)) := by
  rw [h, storeThen, hp, finish_ok]
  exact ⟨fun hk => by rw [storeAt_device hk hn, finish_ok]; rfl, fun hk => by rw [storeAt_rom hk, finish_refuse]⟩

theorem signByte_eq (d : DWord) : signByte d = BitVec.ofInt 32 (BitVec.ofNat 8 d.toNat).toInt := by
  rw [BitVec.ofNat_toNat]
  rfl

theorem signHalf_eq (d : DWord) : signHalf d = BitVec.ofInt 32 (BitVec.ofNat 16 d.toNat).toInt := by
  rw [BitVec.ofNat_toNat]
  rfl

theorem wholeWord_eq (d : DWord) : wholeWord d = BitVec.ofNat 32 d.toNat := (BitVec.ofNat_toNat 32 d).symm

/-- Cutting a datum to a width it fits changes nothing. -/
theorem setWidth_of_lt {w : Nat} {d : DWord} (h : d.toNat < 2 ^ w) : (d.setWidth w).setWidth 32 = BitVec.ofNat 32 d.toNat := by
  refine BitVec.eq_of_toNat_eq ?_
  rw [BitVec.toNat_setWidth, BitVec.toNat_setWidth, Nat.mod_eq_of_lt h, BitVec.toNat_ofNat]

/-- Settles O21: the five loads into a general register, the two into a floating-point one, and the five stores. -/
theorem deviceAccess : Obligations.DeviceAccess := by
  intro s rd rj fd si12 p
  refine ⟨fun hk => ?loads, fun hk hready hp => ?fldS, fun hk hready hp => ?fldD, ?stores⟩
  case loads =>
    repeat rw [List.forall_mem_cons]
    refine ⟨?ldB, ?ldBu, ?ldH, ?ldHu, ?ldW, ?none⟩
    case ldB => exact completes_loadInto_device (n := 1) rfl (by decide) (fun d _ => signByte_eq d) hk
    case ldBu => exact completes_loadInto_device (n := 1) rfl (by decide) (fun _ hd => setWidth_of_lt hd) hk
    case ldH => exact completes_loadInto_device (n := 2) rfl (by decide) (fun d _ => signHalf_eq d) hk
    case ldHu => exact completes_loadInto_device (n := 2) rfl (by decide) (fun _ hd => setWidth_of_lt hd) hk
    case ldW => exact completes_loadInto_device (n := 4) rfl (by decide) (fun d _ => wholeWord_eq d) hk
    case none => simp
  case fldS =>
    obtain ⟨d, hd, hload⟩ := loadThen_device hp hk (by decide)
    refine ⟨d, hd, _, (floating_ready hready _).trans (hload _), rfl, rfl, ?_⟩
    rw [BitVec.ofNat_toNat]
    exact wroteSingle_fprSetW fd _ s
  case fldD =>
    obtain ⟨d, _, hload⟩ := loadThen_device hp hk (by decide)
    exact ⟨d, _, (floating_ready hready _).trans (hload _), rfl, rfl, wroteDouble_fprSet fd d s⟩
  case stores =>
    repeat rw [List.forall_mem_cons]
    refine ⟨?stB, ?stH, ?stW, ?fstS, ?fstD, ?none⟩
    case stB => exact fun _ => store_outside_ram (n := 1) rfl (by decide)
    case stH => exact fun _ => store_outside_ram (n := 2) rfl (by decide)
    case stW => exact fun _ => store_outside_ram (n := 4) rfl (by decide)
    case fstS => exact fun h => store_outside_ram (n := 4) (floating_ready (h false rfl) _) (by decide)
    case fstD => exact fun h => store_outside_ram (n := 8) (floating_ready (h true rfl) _) (by decide)
    case none => simp

end Sys2Proof.Machine

/-! SUPPORT. The fetch: what it sees, and how each of its ends ends the step. -/

namespace Sys2Proof.Machine

/-! What a fetch sees (R185, D41). -/

theorem mem_fetchCandidates {pa : Nat} {s : State} {v : Word} :
    v ∈ fetchCandidates pa s ↔ v = s.mem.word pa ∨ ∃ w ∈ s.stale, w.addr = pa ∧ w.word = v := by
  simp [fetchCandidates, and_assoc]

/-- A fetch sees one of the candidates, whatever the choice. -/
theorem seenWord_mem (choice pa : Nat) (s : State) : seenWord choice pa s ∈ fetchCandidates pa s := by
  rw [seenWord, List.getD_eq_getElem?_getD]
  by_cases h : choice < (fetchCandidates pa s).length
  · simp [h]
  · simp [h, mem_fetchCandidates]

/-- Every candidate is seen under some choice. -/
theorem exists_seenWord_eq {pa : Nat} {s : State} {v : Word} (h : v ∈ fetchCandidates pa s) :
    ∃ choice, seenWord choice pa s = v := by
  obtain ⟨choice, hlt, hv⟩ := List.getElem_of_mem h
  exact ⟨choice, by rw [seenWord, List.getD_eq_getElem _ _ hlt, hv]⟩

theorem seenWord_current {choice pa : Nat} {s : State} (h : choice = 0 ∨ ∀ w ∈ s.stale, w.addr ≠ pa) :
    seenWord choice pa s = s.mem.word pa := by
  obtain rfl | hnone := h
  · rfl
  · exact seenWord_of_no_older hnone choice

theorem Memory.word_eq_wordOfBytes (m : Memory) (a : Nat) :
    m.word a = wordOfBytes (m.byte a) (m.byte (a + 1)) (m.byte (a + 2)) (m.byte (a + 3)) := m.setWidth_read_four a

theorem decodeWord_of_decode {b0 b1 b2 b3 : Byte} {i : Instr} {rest : List Byte} (h : decode [b0, b1, b2, b3] = .ok (i, rest)) :
    decodeWord (wordOfBytes b0 b1 b2 b3) = .ok i := by
  rw [decode] at h
  split at h
  case h_1 hword => simp_all
  case h_2 => cases h

/-! How a fetch ends. -/

theorem decodePhase_ok {w : Word} {i : Instr} (h : decodeWord w = .ok i) (s : State) : (decodePhase w s).outcome = exec i s := by
  rw [decodePhase, h]
  rfl

theorem decodePhase_undefined {w : Word} (h : decodeWord w = .error .undefined) (s : State) :
    (decodePhase w s).outcome = .next (enter .INE 0 s) := by
  rw [decodePhase, h]
  rfl

theorem decodePhase_rdtime {w : Word} (h : decodeWord w = .error .rdtime) (s : State) :
    (decodePhase w s).outcome = .refused .rdtimeForm := by
  rw [decodePhase, h]
  rfl

theorem fetchPhase_of_memory {p : Place} {s : State} (hp : fetchPlace s = .ok p) (hk : p.kind ≠ .device) (choice : Nat) :
    fetchPhase choice s = decodePhase (seenWord choice p.target.pa s) s := by
  simp only [fetchPhase, hp, fetchFrom, if_neg hk]

theorem fetchPhase_of_device {p : Place} {s : State} (hp : fetchPlace s = .ok p) (hk : p.kind = .device) (choice : Nat) :
    fetchPhase choice s = decodePhase (Config.deviceFetch s.draws)
      { s with io := ⟨false, p.target.pa, 4, (Config.deviceFetch s.draws).setWidth 64⟩ :: s.io } := by
  simp only [fetchPhase, hp, fetchFrom, if_pos hk]

theorem fetchPhase_of_raise {x : Exc} {va : Word} {s : State} (h : fetchPlace s = .raise x va) (choice : Nat) :
    (fetchPhase choice s).outcome = .next (enter x va s) := by
  rw [fetchPhase, h]
  rfl

theorem fetchPhase_of_refuse {r : Refusal} {s : State} (h : fetchPlace s = .refuse r) (choice : Nat) :
    (fetchPhase choice s).outcome = .refused r := by
  rw [fetchPhase, h]
  rfl

theorem fetchPlace_misaligned {s : State} (h : s.pc.toNat % 4 ≠ 0) : fetchPlace s = .raise .ADEF s.pc := if_pos h

theorem fetchPlace_aligned {s : State} (h : s.pc.toNat % 4 = 0) :
    fetchPlace s = (translate .fetch s.pc s).bind fun t => (typed t).bind fun t => placed t s := if_neg (by simp [h])

/-! The states no step leaves (R147, R523; log 29). -/

theorem step_of_illegal_level {s : State} (h : legalLevel (boundary s) = false) : step s = .refused .illegalPrivilegeLevel := by
  rw [step, prepare, corePhase, if_pos h]
  rfl

theorem step_of_illegal_mode {s : State} (hl : legalLevel (boundary s) = true) (h : legalMode (boundary s) = false) :
    step s = .refused .illegalTranslationMode := by
  rw [step, prepare, corePhase, if_neg (by simp [hl]), if_pos h]
  rfl

/-- Settles O5: the step is the fetch after the boundary, and a fetch from memory runs the word it sees. -/
theorem stepRunsDecodedInstruction : Obligations.StepRunsDecodedInstruction := by
  refine ⟨fun s p i hd hw hi hp hk => ?_, fun s choice pa => ⟨seenWord_current, ?_⟩, fun s w hw => ?_⟩
  · have hword (h : decodeWord (seenWord (nextInput s).staleChoice p.target.pa (boundary s)) = .ok i) :
        step s = exec i { boundary s with waiting := false } := by
      rw [step_fetches hd hw hi, fetchPhase_of_memory (s := { boundary s with waiting := false }) hp hk]
      exact decodePhase_ok h _
    refine ⟨hword, fun hcur hbytes => hword ?_⟩
    rw [seenWord_current hcur, Memory.word_eq_wordOfBytes]
    exact decodeWord_of_decode hbytes
  · exact mem_fetchCandidates.mp (seenWord_mem choice pa s)
  · exact exists_seenWord_eq (mem_fetchCandidates.mpr (.inr ⟨w, hw, rfl, rfl⟩))

/-- Settles O34: a step refused at its boundary, or else a fetch, by what its place is and what the word there decodes to. -/
theorem fetchExceptions : Obligations.FetchExceptions := by
  refine ⟨fun s h => step_of_illegal_level ?level, fun s hlevel hmode => step_of_illegal_mode ?defined ?mode, ?fetch⟩
  case level => obtain h | h := h <;> simp [legalLevel, plv, h]
  case defined => obtain h | h := hlevel <;> simp [legalLevel, plv, h]
  case mode => simpa [legalMode, directBit, pagingBit] using hmode
  rintro s u hd hw hi rfl
  rw [step_fetches hd hw hi]
  generalize { boundary s with waiting := false } = u
  refine ⟨fun hmis => fetchPhase_of_raise (fetchPlace_misaligned hmis) _, fun hal => ?aligned,
    fun p hp => ⟨fun hk => ?memory, fun hk => ?device⟩⟩
  case aligned =>
    have hplace := fetchPlace_aligned hal
    refine ⟨fun x va ht => fetchPhase_of_raise (by rw [hplace, ht, bind_raise]) _,
      fun r ht => fetchPhase_of_refuse (by rw [hplace, ht, bind_refuse]) _, fun t ht => ⟨fun hmat => ?_, fun hmat hnone => ?_⟩⟩
    · exact fetchPhase_of_refuse (by rw [hplace, ht, bind_ok, typed_reserved hmat, bind_refuse]) _
    · exact fetchPhase_of_refuse
        (by rw [hplace, ht, bind_ok, typed_eq_ok.mpr ⟨rfl, hmat⟩, bind_ok, placed_nothing hnone]) _
  case memory =>
    rw [fetchPhase_of_memory hp hk]
    exact ⟨fun h => decodePhase_undefined h u, fun h => decodePhase_rdtime h u⟩
  case device =>
    rw [fetchPhase_of_device hp hk]
    exact ⟨_, _, rfl, fun i h => decodePhase_ok h _, fun h => decodePhase_undefined h _, fun h => decodePhase_rdtime h _⟩

end Sys2Proof.Machine

/-! SUPPORT. Translation by the TLB (R160 to R163). -/

namespace Sys2Proof.Machine

/-! When an entry matches. -/

theorem toNat_vppnAddress (v : BitVec 19) : (vppnAddress v).toNat = v.toNat * 2 ^ 13 := by
  rw [vppnAddress, BitVec.toNat_append, Nat.shiftLeft_eq]
  exact Nat.or_zero _

theorem samePagePair_iff {ps : BitVec 6} {a b : Word} :
    samePagePair ps a b = true ↔ a.toNat / 2 ^ (ps.toNat + 1) = b.toNat / 2 ^ (ps.toNat + 1) := by
  rw [samePagePair, beq_iff_eq, BitVec.toNat_eq, BitVec.toNat_ushiftRight, BitVec.toNat_ushiftRight,
    Nat.shiftRight_eq_div_pow, Nat.shiftRight_eq_div_pow]

/-- An entry matches an address whose bits above its page pair are its VPPN's. -/
theorem tlbMatch_iff {e : TlbEntry} {asid : BitVec 10} {va : Word} : tlbMatch e asid va = true ↔
    e.e = true ∧ (e.g = true ∨ e.asid = asid) ∧
      e.vppn.toNat * 2 ^ 13 / 2 ^ (e.ps.toNat + 1) = va.toNat / 2 ^ (e.ps.toNat + 1) := by
  rw [tlbMatch, Bool.and_eq_true, Bool.and_eq_true, Bool.or_eq_true, beq_iff_eq, samePagePair_iff, toNat_vppnAddress,
    and_assoc]

theorem tlbMatch_4KB_iff {e : TlbEntry} (h : e.ps = 12) (asid : BitVec 10) (va : Word) : tlbMatch e asid va = true ↔
    e.e = true ∧ (e.g = true ∨ e.asid = asid) ∧ e.vppn.toNat = va.toNat / 2 ^ 13 := by
  rw [tlbMatch_iff, h, show (12 : BitVec 6).toNat + 1 = 13 from rfl, Nat.mul_div_cancel _ (by decide)]

theorem tlbMatch_4MB_iff {e : TlbEntry} (h : e.ps = 21) (asid : BitVec 10) (va : Word) : tlbMatch e asid va = true ↔
    e.e = true ∧ (e.g = true ∨ e.asid = asid) ∧ e.vppn.toNat / 2 ^ 9 = va.toNat / 2 ^ 22 := by
  rw [tlbMatch_iff, h, show (21 : BitVec 6).toNat + 1 = 9 + 13 from rfl, pow_add 2 9 13,
    Nat.mul_div_mul_right _ _ (by decide)]

/-! The page an address lies in. -/

theorem pageOf_eq (e : TlbEntry) (va : Word) :
    pageOf e va = if va.toNat / 2 ^ e.ps.toNat % 2 = 1 then e.page1 else e.page0 := by
  simp [pageOf, BitVec.getLsbD, Nat.testBit_eq_decide_div_mod_eq]

theorem pageAddress_eq {e : TlbEntry} (h : e.ps = 12 ∨ e.ps = 21) (va : Word) (s : State) : pageAddress e va s =
    (if e.ps = 12 then (pageOf e va).ppn.toNat * 2 ^ 12 + va.toNat % 2 ^ 12
      else (pageOf e va).ppn.toNat / 2 ^ 9 * 2 ^ 21 + va.toNat % 2 ^ 21) % 2 ^ s.cfg.palen := by
  obtain h | h := h <;> simp [pageAddress, h]

theorem toNat_plv (s : State) : (plv s).toNat = s.csr.crmd.toNat % 4 := by
  rw [plv, BitVec.extractLsb'_toNat, Nat.shiftRight_zero]

/-- The order of the checks on the page found: V, the level, D of a store (R160, R162). -/
theorem checkPage_eq (k : AccessKind) (e : TlbEntry) (va : Word) (s : State) :
    ((pageOf e va).v = false → checkPage k e va s = .raise (invalidPageExc k) va) ∧
    ((pageOf e va).v = true → (pageOf e va).plv.toNat < s.csr.crmd.toNat % 4 → checkPage k e va s = .raise .PPI va) ∧
    ((pageOf e va).v = true → s.csr.crmd.toNat % 4 ≤ (pageOf e va).plv.toNat → k = .store → (pageOf e va).d = false →
      checkPage k e va s = .raise .PME va) ∧
    ((pageOf e va).v = true → s.csr.crmd.toNat % 4 ≤ (pageOf e va).plv.toNat → (k = .store → (pageOf e va).d = true) →
      checkPage k e va s = .ok ⟨pageAddress e va s, (pageOf e va).mat⟩) := by
  have hlevel : (pageOf e va).plv < plv s ↔ (pageOf e va).plv.toNat < s.csr.crmd.toNat % 4 := by
    rw [BitVec.lt_def, toNat_plv]
  rw [checkPage]
  refine ⟨fun hv => if_pos hv, fun hv hlt => ?_, fun hv hle hk hd => ?_, fun hv hle hd => ?_⟩
  · rw [if_neg (by simp [hv]), if_pos (hlevel.mpr hlt)]
  · rw [if_neg (by simp [hv]), if_neg (by rw [hlevel]; omega), if_pos ⟨hk, hd⟩]
  · rw [if_neg (by simp [hv]), if_neg (by rw [hlevel]; omega), if_neg (by rintro ⟨hk, hclean⟩; simp [hd hk] at hclean)]

/-! The lookup. -/

/-- In mapped mode, where no window hits, the TLB translates. -/
theorem translate_tlb {s : State} {va : Word} (hda : directBit s = false) (hpg : pagingBit s = true)
    (hw : ∀ w ∈ windows s, windowHit w (plv s) va = false) (k : AccessKind) : translate k va s = tlbTranslate k va s := by
  have hnone : windowTargets va s = [] := by simpa [windowTargets] using hw
  rw [translate_mapped hda hpg, mappedTranslate, hnone]

theorem tlbTranslate_none {s : State} {va : Word} (h : ∀ e ∈ s.tlb, tlbMatch e (currentAsid s) va = false) (k : AccessKind) :
    tlbTranslate k va s = .raise .TLBR va := by
  have hnone : s.tlb.filter (fun e => tlbMatch e (currentAsid s) va) = [] := by simpa using h
  rw [tlbTranslate, hnone]

theorem tlbTranslate_one {s : State} {va : Word} {e : TlbEntry}
    (h : s.tlb.filter (fun e => tlbMatch e (currentAsid s) va) = [e]) (k : AccessKind) :
    tlbTranslate k va s = checkPage k e va s := by
  rw [tlbTranslate, h]

theorem tlbTranslate_several {s : State} {va : Word} {e f : TlbEntry} {rest : List TlbEntry}
    (h : s.tlb.filter (fun e => tlbMatch e (currentAsid s) va) = e :: f :: rest) (k : AccessKind) :
    tlbTranslate k va s = .refuse .multipleTlbHit := by
  rw [tlbTranslate, h]

/-- Settles O26: by the number of entries that match; one is checked as `checkPage_eq` says. -/
theorem tlbTranslation : Obligations.TlbTranslation := by
  refine ⟨fun e asid va => ⟨fun h => tlbMatch_4KB_iff h asid va, fun h => tlbMatch_4MB_iff h asid va⟩,
    fun k va s hda hpg hw => ?_⟩
  rw [translate_tlb hda hpg hw]
  refine ⟨fun h => tlbTranslate_none h k, fun e page h hps hpage => ?one, fun e f rest h => tlbTranslate_several h k⟩
  case one =>
    rw [← pageOf_eq] at hpage
    rw [tlbTranslate_one h, hpage, ← pageAddress_eq hps]
    exact checkPage_eq k e va s

end Sys2Proof.Machine

/-! SUPPORT. Cache maintenance (R185, R486 to R489; log 34, 66, 67). -/

namespace Sys2Proof.Machine

/-! CACOP by the class of its code. -/

/-- An index form, where it is allowed. -/
theorem exec_cacop_index {code : BitVec 5} {s : State} (hnamed : namedCode code = true) (hhit : hitClass code = false)
    (hplv : plv s = 0) (rj : Reg) (si12 : BitVec 12) : exec (.cacop code rj si12) s = .next (advance s) := by
  show execCacop code rj si12 s = _
  simp [execCacop, cacheOperation, hnamed, hhit, privileged_at_plv0 hplv]

/-- A Hit form is an access to its address with no alignment check (R487, R489). -/
theorem exec_cacop_hit {code : BitVec 5} (hnamed : namedCode code = true) (hhit : hitClass code = true) (rj : Reg)
    (si12 : BitVec 12) (s : State) : exec (.cacop code rj si12) s =
      ((translate .load (address12 rj si12 s) s).bind typed).finish s fun t =>
        .next (advance (if t.mat = 1 then maintain code t.pa s else s)) := by
  show execCacop code rj si12 s = _
  simp only [execCacop, cacheOperation, hnamed, hhit, if_true]

/-- A code without a function, of the Hit class at any level, of another at PLV0 (log 56). -/
theorem exec_cacop_unnamed {code : BitVec 5} {s : State} (hnamed : namedCode code = false)
    (h : hitClass code = true ∨ plv s = 0) (rj : Reg) (si12 : BitVec 12) :
    exec (.cacop code rj si12) s = .refused .cacopUnnamedCode := by
  have hop (va : Word) : cacheOperation code va s = .refused .cacopUnnamedCode := if_neg (by simp [hnamed])
  show execCacop code rj si12 s = _
  rw [execCacop, hop]
  obtain hhit | hplv := h
  · exact if_pos hhit
  · rw [privileged_at_plv0 hplv, ite_self]

/-! What a Hit form maintains. -/

theorem sameLine_iff {c : Config.CacheGeometry} {a b : Nat} :
    sameLine c a b = true ↔ a / 2 ^ c.offset = b / 2 ^ c.offset := beq_iff_eq

/-- The stage of an older word after a Hit form of CACOP that reached a target: one step on in its own cache's line, on coherent
cached memory; else as it was. -/
def stageAfter (code : BitVec 5) (target : Target) (p : Config.Params) (w : StaleWord) : SyncStage :=
  if code = 0x11 ∧ target.mat = 1 ∧ w.stage = .stored ∧ w.addr / 2 ^ p.dcache.offset = target.pa / 2 ^ p.dcache.offset then
    .writtenBack
  else if code = 0x10 ∧ target.mat = 1 ∧ w.stage = .writtenBack ∧
    w.addr / 2 ^ p.icache.offset = target.pa / 2 ^ p.icache.offset then .invalidated
  else w.stage

theorem stageAfter_uncached {target : Target} (h : target.mat ≠ 1) (code : BitVec 5) (p : Config.Params) (w : StaleWord) :
    stageAfter code target p w = w.stage := by
  rw [stageAfter, if_neg fun hc => h hc.2.1, if_neg fun hc => h hc.2.1]

/-- `stageAfter` is what the model's operation does to every older word, and it does nothing else. -/
theorem maintain_eq (code : BitVec 5) (target : Target) (s : State) :
    (if target.mat = 1 then maintain code target.pa s else s) =
      { s with stale := s.stale.map fun w => { w with stage := stageAfter code target s.cfg w } } := by
  by_cases hmat : target.mat = 1
  · rw [if_pos hmat, maintain]
    congr 2
    funext w
    simp only [stageAfter, hmat, sameLine_iff]
    split_ifs <;> simp_all
  · rw [if_neg hmat]
    simp only [stageAfter_uncached hmat, List.map_id']

/-- A Hit form whose address translates to a defined type completes. -/
theorem exec_cacop_hit_ok {code : BitVec 5} (hnamed : namedCode code = true) (hhit : hitClass code = true) {rj : Reg}
    {si12 : BitVec 12} {s : State} {target : Target} (ht : translate .load (address12 rj si12 s) s = .ok target)
    (hmat : target.mat.toNat < 2) : exec (.cacop code rj si12) s = .next { s with
      pc := s.pc + 4, stale := s.stale.map fun w => { w with stage := stageAfter code target s.cfg w } } := by
  rw [exec_cacop_hit hnamed hhit, ht, bind_ok, typed_eq_ok.mpr ⟨rfl, hmat⟩, finish_ok, maintain_eq]
  rfl

/-- Settles O43: by the class of the code; a Hit form as its translation goes. -/
theorem cacheOperationResult : Obligations.CacheOperationResult := by
  intro s code rj si12
  refine ⟨fun hcode hplv => ?index, fun hcode => ?hit, fun hcode hallowed => ?unnamed⟩
  case index =>
    obtain ⟨hnamed, hhit⟩ := (by decide : ∀ c : BitVec 5, c ∈ [0x00, 0x01, 0x02, 0x08, 0x09, 0x0A] →
      namedCode c = true ∧ hitClass c = false) code hcode
    exact exec_cacop_index hnamed hhit hplv rj si12
  case hit =>
    obtain ⟨hnamed, hhit⟩ := (by decide : ∀ c : BitVec 5, c ∈ [0x10, 0x11, 0x12] →
      namedCode c = true ∧ hitClass c = true) code hcode
    refine ⟨fun t ht hmat => exec_cacop_hit_ok hnamed hhit ht hmat, ?_⟩
    rw [exec_cacop_hit hnamed hhit]
    exact ⟨fun x va ht => by rw [ht, bind_raise, finish_raise], fun r ht => by rw [ht, bind_refuse, finish_refuse],
      fun t ht hmat => by rw [ht, bind_ok, typed_reserved hmat, finish_refuse]⟩
  case unnamed =>
    obtain ⟨hnamed, hhit⟩ := (by decide : ∀ c : BitVec 5, c ∉ [0x00, 0x01, 0x02, 0x08, 0x09, 0x0A, 0x10, 0x11, 0x12] →
      namedCode c = false ∧ (c.toNat / 8 = 2 → hitClass c = true)) code hcode
    exact exec_cacop_unnamed hnamed (hallowed.imp_left hhit) rj si12

/-! The maintenance sequence (R185). -/

/-- CACOP 0x11 and then 0x10 on coherent cached memory leave every older word of the address invalidated. -/
theorem stageAfter_sequence {target : Target} (hmat : target.mat = 1) (p : Config.Params) {w : StaleWord} (hw : w.addr = target.pa) :
    stageAfter 0x10 target p { w with stage := stageAfter 0x11 target p w } = .invalidated := by
  cases hs : w.stage <;> simp [stageAfter, hmat, hw, hs]

/-- Settles O44: the two CACOPs bring every older word of the address to the stage IBAR ends. -/
theorem codeMaintenanceSequence : Obligations.CodeMaintenanceSequence := by
  intro s rj si12 target ht hmat _
  have hdefined : target.mat.toNat < 2 := by rw [hmat]; decide
  refine ⟨_, _, _, exec_cacop_hit_ok (by decide) (by decide) ht hdefined,
    exec_cacop_hit_ok (by decide) (by decide) ht hdefined, rfl, seenWord_of_no_older fun w hw haddr => ?_⟩
  simp only [advance_stale, List.map_map, List.mem_filter, List.mem_map, Function.comp_apply, decide_eq_true_eq] at hw
  obtain ⟨⟨v, _, rfl⟩, hstage⟩ := hw
  exact hstage (stageAfter_sequence hmat s.cfg haddr)

end Sys2Proof.Machine

/-! SUPPORT. Encoding and decoding are inverse, over every instruction and over every word (R202, R203, R220). -/

namespace Sys2Proof.Laws.RoundTrip

/-- Decoding undoes encoding, by the law of the instruction's constructor. -/
theorem decodeWord_encodeWord (i : Instr) : Statement i :=
  i.casesOn (motive := Statement)
    rdcntid rdcntvlW rdcntvhW addW subW slt sltu nor and or xor sllW srlW sraW mulW mulhW mulhWu divW modW divWu modWu brk
    syscall slliW srliW sraiW faddS faddD fsubS fsubD fmulS fmulD fdivS fdivD fmaxS fmaxD fminS fminD fmaxaS fmaxaD fminaS
    fminaD fcopysignS fcopysignD fabsS fabsD fnegS fnegD fclassS fclassD fsqrtS fsqrtD frecipS frecipD frsqrtS frsqrtD
    fmovS fmovD movgr2frW movgr2frhW movfr2grS movfrh2grS movgr2fcsr movfcsr2gr movfr2cf movcf2fr movgr2cf movcf2gr fcvtSD
    fcvtDS ftintrmWS ftintrmWD ftintrpWS ftintrpWD ftintrzWS ftintrzWD ftintrneWS ftintrneWD ftintWS ftintWD ffintSW
    ffintDW slti sltui addiW andi ori xori csrrd csrwr csrxchg cacop tlbsrch tlbrd tlbwr tlbfill ertn idle invtlb fmaddS
    fmaddD fmsubS fmsubD fnmaddS fnmaddD fnmsubS fnmsubD fcmpCafS fcmpSafS fcmpCltS fcmpSltS fcmpCeqS fcmpSeqS fcmpCleS
    fcmpSleS fcmpCunS fcmpSunS fcmpCultS fcmpSultS fcmpCueqS fcmpSueqS fcmpCuleS fcmpSuleS fcmpCneS fcmpSneS fcmpCorS
    fcmpSorS fcmpCuneS fcmpSuneS fcmpCafD fcmpSafD fcmpCltD fcmpSltD fcmpCeqD fcmpSeqD fcmpCleD fcmpSleD fcmpCunD fcmpSunD
    fcmpCultD fcmpSultD fcmpCueqD fcmpSueqD fcmpCuleD fcmpSuleD fcmpCneD fcmpSneD fcmpCorD fcmpSorD fcmpCuneD fcmpSuneD
    fsel lu12iW pcaddu12i llW scW ldB ldH ldW stB stH stW ldBu ldHu preld fldS fstS fldD fstD dbar ibar bceqz bcnez jirl b
    bl beq bne blt bge bltu bgeu

/-- Settles O1: the word made of the bytes is the word encoded, and it decodes to its instruction. -/
theorem decodeOfEncode : Obligations.DecodeOfEncode := by
  intro i rest hwf
  rw [encode, decode_bytesOfWord, decodeWord_encodeWord i hwf, Except.map]

/-- Settles O3: each word, written bit by bit, is the word the encoder writes for its instruction. -/
theorem writtenWordsDecode : Obligations.WrittenWordsDecode :=
  ⟨decodeWord_encodeWord (.addW 3 1 2) rfl, decodeWord_encodeWord (.addiW 4 0 0xFFF) rfl,
    decodeWord_encodeWord (.ldW 5 6 4) rfl, decodeWord_encodeWord (.bne 1 0 0xFFFE) rfl,
    decodeWord_encodeWord (.b 0x40000) rfl, decodeWord_encodeWord (.bceqz 1 0x1FFFFF) rfl,
    decodeWord_encodeWord (.csrwr 4 5) rfl, decodeWord_encodeWord (.invtlb 5 4 5) rfl,
    decodeWord_encodeWord (.fcmpCltS 0 1 2) rfl⟩

end Sys2Proof.Laws.RoundTrip

namespace Sys2Proof

/-! A word is its fields put together again, format by format (R202, R203). -/

theorem enc2R_fields {w : Word} {op : BitVec 22} {j d : BitVec 5} (hop : op22 w = op) (hj : rjOf w = j) (hd : rdOf w = d) :
    enc2R op j d = w := by
  simp only [← hop, ← hj, ← hd, enc2R, op22, rjOf, rdOf, BitVec.extractLsb'_append_extractLsb'_eq_extractLsb']
  exact extract_all w

theorem enc3R_fields {w : Word} {op : BitVec 17} (hop : op17 w = op) : enc3R op (rkOf w) (rjOf w) (rdOf w) = w := by
  simp only [← hop, enc3R, op17, rkOf, rjOf, rdOf, BitVec.extractLsb'_append_extractLsb'_eq_extractLsb']
  exact extract_all w

theorem enc4R_fields {w : Word} {op : BitVec 12} {a d : BitVec 5} (hop : op12 w = op) (ha : raOf w = a) (hd : rdOf w = d) :
    enc4R op a (rkOf w) (rjOf w) d = w := by
  simp only [← hop, ← ha, ← hd, enc4R, op12, raOf, rkOf, rjOf, rdOf, BitVec.extractLsb'_append_extractLsb'_eq_extractLsb']
  exact extract_all w

theorem encSel_fields {w : Word} {op : BitVec 14} (hop : w.extractLsb' 18 14 = op) :
    encSel op (caOf w) (rkOf w) (rjOf w) (rdOf w) = w := by
  simp only [← hop, encSel, caOf, rkOf, rjOf, rdOf, BitVec.extractLsb'_append_extractLsb'_eq_extractLsb']
  exact extract_all w

theorem enc2RI12_fields {w : Word} {op : BitVec 10} (hop : op10 w = op) : enc2RI12 op (imm12Of w) (rjOf w) (rdOf w) = w := by
  simp only [← hop, enc2RI12, op10, imm12Of, rjOf, rdOf, BitVec.extractLsb'_append_extractLsb'_eq_extractLsb']
  exact extract_all w

theorem enc2RI14_fields {w : Word} {op : BitVec 8} {j : BitVec 5} (hop : op8 w = op) (hj : rjOf w = j) :
    enc2RI14 op (imm14Of w) j (rdOf w) = w := by
  simp only [← hop, ← hj, enc2RI14, op8, imm14Of, rjOf, rdOf, BitVec.extractLsb'_append_extractLsb'_eq_extractLsb']
  exact extract_all w

theorem enc2RI16_fields {w : Word} {op : BitVec 6} (hop : op6 w = op) : enc2RI16 op (offs16Of w) (rjOf w) (rdOf w) = w := by
  simp only [← hop, enc2RI16, op6, offs16Of, rjOf, rdOf, BitVec.extractLsb'_append_extractLsb'_eq_extractLsb']
  exact extract_all w

theorem enc1RI20_fields {w : Word} {op : BitVec 7} (hop : w.extractLsb' 25 7 = op) :
    enc1RI20 op (imm20Of w) (rdOf w) = w := by
  simp only [← hop, enc1RI20, imm20Of, rdOf, BitVec.extractLsb'_append_extractLsb'_eq_extractLsb']
  exact extract_all w

theorem encCode_fields {w : Word} {op : BitVec 17} (hop : op17 w = op) : encCode op (codeOf w) = w := by
  simp only [← hop, encCode, op17, codeOf, BitVec.extractLsb'_append_extractLsb'_eq_extractLsb']
  exact extract_all w

/-- The split immediate of R210 puts each part back where it came from. -/
theorem enc1RI21_fields {w : Word} {op : BitVec 6} {kind : BitVec 2} (hop : op6 w = op) (hkind : w.extractLsb' 8 2 = kind) :
    enc1RI21 op (offs21Of w) kind (cjOf w) = w := by
  simp only [← hop, ← hkind, enc1RI21, op6, offs21Of, cjOf, BitVec.extractLsb'_append_eq_left,
    BitVec.extractLsb'_append_eq_right, BitVec.extractLsb'_append_extractLsb'_eq_extractLsb']
  exact extract_all w

/-- The split immediate of R211 puts each part back where it came from. -/
theorem encI26_fields {w : Word} {op : BitVec 6} (hop : op6 w = op) : encI26 op (offs26Of w) = w := by
  simp only [← hop, encI26, op6, offs26Of, BitVec.extractLsb'_append_eq_left, BitVec.extractLsb'_append_eq_right,
    BitVec.extractLsb'_append_extractLsb'_eq_extractLsb']
  exact extract_all w

/-! A register slot whose two bits above the flag number are zero is the slot of that flag (R203 (d), (f)). -/

theorem rdOf_of_lowSlotClear {w : Word} (h : lowSlotClear w = true) : rdOf w = flagSlot (cdOf w) := by
  have hz : w.extractLsb' 3 2 = 0 := beq_iff_eq.mp h
  rw [flagSlot, ← hz]
  simp only [cdOf, rdOf, BitVec.extractLsb'_append_extractLsb'_eq_extractLsb']

theorem rjOf_of_highSlotClear {w : Word} (h : highSlotClear w = true) : rjOf w = flagSlot (cjOf w) := by
  have hz : w.extractLsb' 8 2 = 0 := beq_iff_eq.mp h
  rw [flagSlot, ← hz]
  simp only [cjOf, rjOf, BitVec.extractLsb'_append_extractLsb'_eq_extractLsb']

/-! Decoding keeps every bit: what a decoder answers for a word, the encoder makes that word of again. -/

/-- If decoding `w` answered `r`, then an instruction in `r` is well-formed and has `w` as its word. -/
def Reencodes (w : Word) (r : Except DecodeError Instr) : Prop :=
  ∀ i, r = .ok i → encodeWord i = w ∧ i.wellFormed = true

theorem Reencodes.ok {w : Word} {i : Instr} (hw : encodeWord i = w) (hwf : i.wellFormed = true) : Reencodes w (.ok i) := by
  rintro _ ⟨⟩
  exact ⟨hw, hwf⟩

theorem Reencodes.error {w : Word} {e : DecodeError} : Reencodes w (.error e) := nofun

/-- A check before an answer: what it found may be used for the answer. -/
theorem Reencodes.guarded {w : Word} {p : Prop} [Decidable p] {r : Except DecodeError Instr} {e : DecodeError}
    (h : p → Reencodes w r) : Reencodes w (if p then r else .error e) := by
  split
  · next hp => exact h hp
  · exact .error

theorem decodeInt3R_reencodes (w : Word) : Reencodes w (decodeInt3R w) := by
  unfold decodeInt3R
  split
  case h_19 h | h_20 h => exact .ok (encCode_fields h) rfl
  case h_24 => exact .error
  all_goals next h => exact .ok (enc3R_fields h) rfl

theorem decodeCounter_reencodes (w : Word) : Reencodes w (decodeCounter w) := by
  unfold decodeCounter
  split
  case h_1 h =>
    split
    · next hj => exact .ok (enc2R_fields h hj rfl) rfl
    · next hj => exact .guarded fun hd => .ok (enc2R_fields h rfl hd) (bne_iff_ne.mpr hj)
  case h_2 h => exact .guarded fun hj => .ok (enc2R_fields h hj rfl) rfl
  case h_3 => exact decodeInt3R_reencodes w

theorem decodeFloat2R_reencodes (w : Word) : Reencodes w (decodeFloat2R w) := by
  unfold decodeFloat2R
  split
  case h_21 h | h_23 h => exact .guarded fun hd => .ok (enc2R_fields h rfl (rdOf_of_lowSlotClear hd)) rfl
  case h_22 h | h_24 h => exact .guarded fun hj => .ok (enc2R_fields h (rjOf_of_highSlotClear hj) rfl) rfl
  case h_39 => exact .error
  all_goals next h => exact .ok (enc2R_fields h rfl rfl) rfl

theorem decodeFloat_reencodes (w : Word) : Reencodes w (decodeFloat w) := by
  unfold decodeFloat
  split
  case h_19 => exact decodeFloat2R_reencodes w
  all_goals next h => exact .ok (enc3R_fields h) rfl

theorem decodeImm12_reencodes (w : Word) : Reencodes w (decodeImm12 w) := by
  unfold decodeImm12
  split
  case h_21 => exact .error
  all_goals next h => exact .ok (enc2RI12_fields h) rfl

theorem decodeGroup0_reencodes (w : Word) : Reencodes w (decodeGroup0 w) := by
  unfold decodeGroup0
  split
  · exact decodeCounter_reencodes w
  · exact decodeFloat_reencodes w
  · exact decodeImm12_reencodes w

/-- CSRXCHG is left with the values of rj that are neither CSRRD's nor CSRWR's, the ones it is well-formed for (R481). -/
theorem decodeCsr_reencodes {w : Word} (hop : op8 w = 0x04) : Reencodes w (decodeCsr w) := by
  unfold decodeCsr
  split
  case h_1 hj | h_2 hj => exact .ok (enc2RI14_fields hop hj) rfl
  case h_3 h0 h1 => exact .ok (enc2RI14_fields hop rfl) (Bool.and_eq_true_iff.mpr ⟨bne_iff_ne.mpr h0, bne_iff_ne.mpr h1⟩)

/-- The five words without operands are compared whole. -/
theorem decodeTlb_reencodes (w : Word) : Reencodes w (decodeTlb w) := by
  unfold decodeTlb
  split
  case h_1 h => exact .ok (encCode_fields h) rfl
  case h_2 h => exact .ok (enc3R_fields h) rfl
  case h_3 =>
    split
    case h_6 => exact .error
    all_goals exact .ok rfl rfl

theorem decodeGroup1_reencodes (w : Word) : Reencodes w (decodeGroup1 w) := by
  unfold decodeGroup1
  split
  case h_1 h => exact decodeCsr_reencodes h
  case h_2 =>
    split
    · exact decodeTlb_reencodes w
    · exact decodeImm12_reencodes w
  case h_3 => exact .error

theorem decode4R_reencodes (w : Word) : Reencodes w (decode4R w) := by
  unfold decode4R
  split
  case h_9 => exact .error
  all_goals next h => exact .ok (enc4R_fields h rfl rfl) rfl

theorem decodeFcmpS_reencodes {w : Word} (hop : op12 w = 0x0c1) (hd : lowSlotClear w = true) : Reencodes w (decodeFcmpS w) := by
  unfold decodeFcmpS
  split
  case h_23 => exact .error
  all_goals next hcond => exact .ok (enc4R_fields hop hcond (rdOf_of_lowSlotClear hd)) rfl

theorem decodeFcmpD_reencodes {w : Word} (hop : op12 w = 0x0c2) (hd : lowSlotClear w = true) : Reencodes w (decodeFcmpD w) := by
  unfold decodeFcmpD
  split
  case h_23 => exact .error
  all_goals next hcond => exact .ok (enc4R_fields hop hcond (rdOf_of_lowSlotClear hd)) rfl

theorem decodeGroup3_reencodes (w : Word) : Reencodes w (decodeGroup3 w) := by
  unfold decodeGroup3
  split
  case h_1 h => exact .guarded (decodeFcmpS_reencodes h)
  case h_2 h => exact .guarded (decodeFcmpD_reencodes h)
  case h_3 =>
    split
    · next h => exact .ok (encSel_fields h) rfl
    · exact .error

theorem decodeUpper_reencodes (w : Word) : Reencodes w (decodeUpper w) := by
  unfold decodeUpper
  split
  case h_1 h | h_2 h => exact .ok (enc1RI20_fields h) rfl
  case h_3 => exact .error

theorem decodeReservation_reencodes (w : Word) : Reencodes w (decodeReservation w) := by
  unfold decodeReservation
  split
  case h_1 h | h_2 h => exact .ok (enc2RI14_fields h rfl) rfl
  case h_3 => exact .error

theorem decodeBarrier_reencodes (w : Word) : Reencodes w (decodeBarrier w) := by
  unfold decodeBarrier
  split
  case h_1 h | h_2 h => exact .ok (encCode_fields h) rfl
  case h_3 => exact .error

theorem decodeFlagBranch_reencodes {w : Word} (hop : op6 w = 0x12) : Reencodes w (decodeFlagBranch w) := by
  unfold decodeFlagBranch
  split
  case h_1 hkind | h_2 hkind => exact .ok (enc1RI21_fields hop hkind) rfl
  case h_3 => exact .error

/-- By the six top bits; a group of instructions by its own decoder. -/
theorem decodeWord_reencodes (w : Word) : Reencodes w (decodeWord w) := by
  unfold decodeWord
  split
  case h_1 => exact decodeGroup0_reencodes w
  case h_2 => exact decodeGroup1_reencodes w
  case h_3 => exact decode4R_reencodes w
  case h_4 => exact decodeGroup3_reencodes w
  case h_5 | h_6 => exact decodeUpper_reencodes w
  case h_7 => exact decodeReservation_reencodes w
  case h_8 => exact decodeImm12_reencodes w
  case h_9 => exact decodeBarrier_reencodes w
  case h_10 h => exact decodeFlagBranch_reencodes h
  case h_12 h | h_13 h => exact .ok (encI26_fields h) rfl
  case h_20 => exact .error
  all_goals next h => exact .ok (enc2RI16_fields h) rfl

/-- Settles O2: every decoder answers with an instruction whose fields are all of the word's bits. -/
theorem encodeOfDecode : Obligations.EncodeOfDecode := decodeWord_reencodes

end Sys2Proof

/-! SUPPORT. Integer arithmetic, logic, shifts, products and quotients. -/

namespace Sys2Proof.Machine

/-! Immediates as numbers (R205, R206, R207). -/

/-- The unsigned number of a word, from its signed one. -/
theorem toNat_eq_toInt_emod (v : Word) : (v.toNat : Int) = v.toInt % 4294967296 := by
  rw [BitVec.toInt_eq_toNat_bmod]
  exact (Int.bmod_emod.trans (Int.emod_eq_of_lt (Int.natCast_nonneg _) (by exact_mod_cast v.isLt))).symm

theorem toInt_simm12 (i : BitVec 12) : (simm12 i).toInt = i.toInt := BitVec.toInt_signExtend_of_le (by decide)

/-- A sign-extended immediate, compared as unsigned (R258). -/
theorem toNat_simm12 (i : BitVec 12) : ((simm12 i).toNat : Int) = i.toInt % 4294967296 := by
  rw [toNat_eq_toInt_emod, toInt_simm12]

theorem upper20_eq (i : BitVec 20) : upper20 i = BitVec.ofNat 32 (i.toNat * 4096) := by
  refine BitVec.eq_of_toNat_eq ?_
  have hlt := i.isLt
  rw [upper20, BitVec.toNat_append, Nat.shiftLeft_eq, BitVec.toNat_ofNat, Nat.mod_eq_of_lt (by omega)]
  exact Nat.or_zero _

/-- Settles O11: the word of a sum is the sum of the words. -/
theorem additionResult : Obligations.AdditionResult := by
  intro s rd rj rk si12 si20
  refine ⟨?addW, ?subW, ?addiW, ?lu12iW, ?pcaddu12i⟩
  case addW => exact completes_gprSet rfl (BitVec.add_def ..)
  case subW =>
    refine completes_gprSet rfl ?_
    rw [BitVec.sub_eq_add_neg, Int.sub_eq_add_neg, BitVec.ofInt_add, BitVec.ofInt_neg, BitVec.ofInt_toInt, BitVec.ofInt_toInt]
  case addiW => exact completes_gprSet rfl (address12_eq rj si12 s)
  case lu12iW => exact completes_gprSet rfl (upper20_eq si20)
  case pcaddu12i =>
    refine completes_gprSet rfl ?_
    rw [upper20_eq, BitVec.ofNat_add, BitVec.ofNat_toNat, BitVec.setWidth_eq]

/-! Comparisons (R255 to R258). -/

theorem boolWord_decide (p : Prop) [Decidable p] : boolWord (decide p) = if p then 1 else 0 := by
  simp [boolWord]

/-- Settles O12: SLT and SLTU compare the words' numbers, and an immediate's word has the immediate's number. -/
theorem compareResult : Obligations.CompareResult := by
  intro s rd rj rk si12
  refine ⟨?slt, ?sltu, ?slti, ?sltui⟩
  case slt => exact completes_gprSet rfl (boolWord_decide _)
  case sltu => exact completes_gprSet rfl (boolWord_decide _)
  case slti =>
    rw [← toInt_simm12]
    exact completes_gprSet rfl (boolWord_decide _)
  case sltui =>
    rw [← toNat_simm12]
    simp only [Int.ofNat_lt]
    exact completes_gprSet rfl (boolWord_decide _)

/-! Logic (R260 to R267). -/

theorem getLsbD_uimm12 (i : BitVec 12) {k : Nat} (hk : k < 32) :
    (uimm12 i).getLsbD k = (decide (k < 12) && i.getLsbD k) := by
  rw [uimm12, BitVec.getLsbD_setWidth, decide_eq_true hk, Bool.true_and]
  by_cases h : k < 12
  · rw [decide_eq_true h, Bool.true_and]
  · rw [decide_eq_false h, Bool.false_and, BitVec.getLsbD_of_ge i k (by omega)]

/-- An instruction that writes one register and goes on writes the word whose bits are `p`. -/
theorem exists_completes_of_bits {i : Instr} {s : State} {rd : Reg} {v : Word} {p : Nat → Bool}
    (h : exec i s = .next (advance (gprSet rd v s))) (hp : ∀ k, k < 32 → v.getLsbD k = p k) :
    ∃ w : Word, (∀ k, k < 32 → w.getLsbD k = p k) ∧ completes i s (wroteGpr rd w s) :=
  ⟨v, hp, completes_gprSet h rfl⟩

/-- Settles O13: the words' operations are the operations of their bits, and NOP writes nothing. -/
theorem logicResult : Obligations.LogicResult := by
  intro s rd rj rk ui12
  refine ⟨?and, ?or, ?nor, ?xor, ?andi, ?ori, ?xori, ?nop⟩
  case and => exact exists_completes_of_bits rfl fun k _ => BitVec.getLsbD_and
  case or => exact exists_completes_of_bits rfl fun k _ => BitVec.getLsbD_or
  case nor =>
    refine exists_completes_of_bits rfl fun k hk => ?_
    rw [BitVec.getLsbD_not, BitVec.getLsbD_or, decide_eq_true hk, Bool.true_and]
  case xor => exact exists_completes_of_bits rfl fun k _ => BitVec.getLsbD_xor
  case andi =>
    refine exists_completes_of_bits rfl fun k hk => ?_
    rw [BitVec.getLsbD_and, getLsbD_uimm12 ui12 hk, Bool.and_left_comm]
  case ori =>
    refine exists_completes_of_bits rfl fun k hk => ?_
    rw [BitVec.getLsbD_or, getLsbD_uimm12 ui12 hk]
  case xori =>
    refine exists_completes_of_bits rfl fun k hk => ?_
    rw [BitVec.getLsbD_xor, getLsbD_uimm12 ui12 hk]
  case nop => rfl

/-! Shifts (R275 to R280). -/

theorem shiftAmount_eq (v : Word) : shiftAmount v = v.toNat % 32 := BitVec.toNat_setWidth 5 v

theorem getLsbD_shiftLeft_word (v : Word) (n : Nat) {k : Nat} (hk : k < 32) :
    (v <<< n).getLsbD k = (decide (n ≤ k) && v.getLsbD (k - n)) := by
  rw [BitVec.getLsbD_shiftLeft, decide_eq_true hk, Bool.true_and, ← decide_not]
  simp only [not_lt]

theorem getLsbD_ushiftRight_word (v : Word) (n k : Nat) :
    (v >>> n).getLsbD k = (decide (k + n < 32) && v.getLsbD (k + n)) := by
  rw [BitVec.getLsbD_ushiftRight, Nat.add_comm n k]
  by_cases h : k + n < 32
  · rw [decide_eq_true h, Bool.true_and]
  · rw [decide_eq_false h, Bool.false_and, BitVec.getLsbD_of_ge v _ (by omega)]

theorem getLsbD_sshiftRight_word (v : Word) (n : Nat) {k : Nat} (hk : k < 32) :
    (v.sshiftRight n).getLsbD k = v.getLsbD (if k + n < 32 then k + n else 31) := by
  rw [BitVec.getLsbD_sshiftRight, decide_eq_false (by omega), Bool.not_false, Bool.true_and, Nat.add_comm n k,
    BitVec.msb_eq_getLsbD_last]
  exact (apply_ite v.getLsbD _ _ _).symm

/-- Settles O14: both forms of a shift move the bits by their amount. -/
theorem shiftResult : Obligations.ShiftResult := by
  intro s rd rj rk ui5
  rw [← shiftAmount_eq, List.forall_mem_cons, List.forall_mem_singleton]
  refine ⟨⟨?sllW, ?srlW, ?sraW⟩, ⟨?slliW, ?srliW, ?sraiW⟩⟩
  case sllW | slliW => exact exists_completes_of_bits rfl fun k hk => getLsbD_shiftLeft_word _ _ hk
  case srlW | srliW => exact exists_completes_of_bits rfl fun k _ => getLsbD_ushiftRight_word _ _ k
  case sraW | sraiW => exact exists_completes_of_bits rfl fun k hk => getLsbD_sshiftRight_word _ _ hk

/-! Products (R268, R269, R270). -/

/-- The low word of a product is the same for signed operands (R268). -/
theorem toNat_mul_eq_emod (a b : Word) : ((a * b).toNat : Int) = a.toInt * b.toInt % 4294967296 := by
  rw [toNat_eq_toInt_emod, BitVec.toInt_mul]
  exact Int.bmod_emod

/-- The high word of a signed product holds all of its part above bit 31. -/
theorem toInt_highSigned (a b : Word) :
    (BitVec.ofInt 32 (a.toInt * b.toInt / 4294967296)).toInt = a.toInt * b.toInt / 4294967296 := by
  have hlow : -2 ^ 62 ≤ a.toInt * b.toInt := BitVec.le_toInt_mul_toInt
  have hhigh : a.toInt * b.toInt ≤ 2 ^ 62 := BitVec.toInt_mul_toInt_le
  exact BitVec.toInt_ofInt_eq_self (by decide) (by omega) (by omega)

theorem toNat_highUnsigned (a b : Word) :
    (BitVec.ofNat 32 (a.toNat * b.toNat / 4294967296)).toNat = a.toNat * b.toNat / 4294967296 := by
  refine (BitVec.toNat_ofNat _ _).trans (Nat.mod_eq_of_lt (Nat.div_lt_of_lt_mul ?_))
  exact Nat.mul_lt_mul'' a.isLt b.isLt

/-- Settles O15: each high word is the product divided by 2^32, the low word the remainder. -/
theorem multiplyResult : Obligations.MultiplyResult := by
  intro s rd rj rk
  refine ⟨_, _, _, ?signed, ?unsigned, completes_gprSet rfl rfl, completes_gprSet rfl rfl, completes_gprSet rfl rfl⟩
  case signed => rw [toInt_highSigned, toNat_mul_eq_emod, Int.ediv_mul_add_emod]
  case unsigned => rw [toNat_highUnsigned, BitVec.toNat_mul, Nat.div_add_mod']

/-! Quotients and remainders (R271 to R274, R281). -/

/-- The remainder of a truncating division is 0 or has the dividend's sign. -/
theorem tmod_sign (a b : Int) : a.tmod b = 0 ∨ (a.tmod b < 0 ↔ a < 0) := by
  have hsign := Int.sign_tmod a b
  by_cases h : b ∣ a
  · exact .inl (Int.tmod_eq_zero_of_dvd h)
  · rw [if_neg h] at hsign
    exact .inr (by rw [← Int.sign_eq_neg_one_iff_neg, hsign, Int.sign_eq_neg_one_iff_neg])

/-- Settles O16: the operations divide by every divisor but 0. -/
theorem divideResult : Obligations.DivideResult := by
  intro s rd rj rk
  refine ⟨fun h => ⟨_, _, (Int.tdiv_mul_add_tmod _ _).symm, ?bound, tmod_sign _ _, ?divW, ?modW⟩,
    fun h => ⟨_, _, (Nat.div_add_mod' _ _).symm, Nat.mod_lt _ ?positive, ?divWu, ?modWu⟩, ?byZero⟩
  case bound =>
    have hne : (gprGet rk s).toInt ≠ 0 := fun h0 => h (BitVec.eq_of_toInt_eq h0)
    exact (Int.natAbs_tmod _ _).trans_lt (Nat.mod_lt _ (Int.natAbs_pos.mpr hne))
  case positive => exact Nat.pos_of_ne_zero fun h0 => h (BitVec.eq_of_toNat_eq h0)
  case divW | modW | divWu | modWu => exact completes_gprSet rfl (if_neg h)
  case byZero =>
    intro _ i hi
    fin_cases hi <;> exact ⟨_, completes_gprSet rfl rfl⟩

end Sys2Proof.Machine

/-! SUPPORT. Branches and jumps. -/

namespace Sys2Proof.Machine

/-! Offsets and targets (R209, R210, R211, R300). -/

/-- An offset over two zeros, sign-extended, is four times the offset. -/
theorem signExtend_shifted {w : Nat} (i : BitVec w) (hw : w ≠ 0) :
    (i ++ (0 : BitVec 2)).signExtend 32 = BitVec.ofInt 32 (4 * i.toInt) := by
  have htoInt : (i ++ (0 : BitVec 2)).toInt = 4 * i.toInt := by
    rw [BitVec.toInt_append, if_neg (mt beq_iff_eq.mp hw)]
    exact Int.add_zero _
  exact congrArg (BitVec.ofInt 32) htoInt

theorem offset16_eq (i : BitVec 16) : offset16 i = BitVec.ofInt 32 (4 * i.toInt) := signExtend_shifted i (by decide)

theorem offset21_eq (i : BitVec 21) : offset21 i = BitVec.ofInt 32 (4 * i.toInt) := signExtend_shifted i (by decide)

theorem offset26_eq (i : BitVec 26) : offset26 i = BitVec.ofInt 32 (4 * i.toInt) := signExtend_shifted i (by decide)

/-- The sum of an address and an offset wraps (D1). -/
theorem add_ofInt (a : Word) (n : Int) : a + BitVec.ofInt 32 n = BitVec.ofInt 32 (a.toInt + n) := by
  rw [BitVec.ofInt_add, BitVec.ofInt_toInt]

/-! Conditional branches (R301 to R306, R455, R456). -/

/-- A branch on a condition changes pc only; not taken, it goes on as by an offset of 4. -/
theorem branchIf_eq (p : Prop) [Decidable p] {c : Bool} (hc : c = decide p) {offset : Word} {n : Int}
    (ho : offset = BitVec.ofInt 32 n) (s : State) :
    branchIf c offset s = .next { s with pc := BitVec.ofInt 32 (s.pc.toInt + if p then n else 4) } := by
  subst hc ho
  by_cases h : p
  · rw [branchIf, decide_eq_true h, if_pos rfl, if_pos h, ← add_ofInt]
    rfl
  · rw [branchIf, decide_eq_false h, if_neg Bool.false_ne_true, if_neg h, ← add_ofInt]
    rfl

theorem beq_eq_decide_toNat (a b : Word) : (a == b) = decide (a.toNat = b.toNat) := by
  rw [beq_eq_decide, decide_eq_decide]
  exact BitVec.toNat_inj.symm

theorem bne_eq_decide_toNat (a b : Word) : (a != b) = decide (a.toNat ≠ b.toNat) := by
  rw [bne, beq_eq_decide_toNat, decide_not]

theorem not_slt_eq_decide (a b : Word) : (!a.slt b) = decide (b.toInt ≤ a.toInt) := by
  rw [BitVec.slt, ← decide_not, decide_eq_decide, not_lt]

theorem not_ult_eq_decide (a b : Word) : (!a.ult b) = decide (b.toNat ≤ a.toNat) := by
  rw [BitVec.ult, ← decide_not, decide_eq_decide, not_lt]

/-- Settles O17: every branch is `branchIf`, on its comparison of the words' numbers or its flag. -/
theorem conditionalBranchResult : Obligations.ConditionalBranchResult := by
  intro s rj rd offs cj offs21
  simp only [List.forall_mem_cons, decide_eq_true_eq]
  refine ⟨⟨?beq, ?bne, ?blt, ?bge, ?bltu, ?bgeu, List.forall_mem_nil _⟩, fun hready => ⟨?bceqz, ?bcnez⟩⟩
  case beq => exact branchIf_eq _ (beq_eq_decide_toNat _ _) (offset16_eq offs) s
  case bne => exact branchIf_eq _ (bne_eq_decide_toNat _ _) (offset16_eq offs) s
  case blt | bltu => exact branchIf_eq _ rfl (offset16_eq offs) s
  case bge => exact branchIf_eq _ (not_slt_eq_decide _ _) (offset16_eq offs) s
  case bgeu => exact branchIf_eq _ (not_ult_eq_decide _ _) (offset16_eq offs) s
  case bceqz =>
    exact (floating_ready hready _).trans (branchIf_eq _ Bool.decide_eq_false.symm (offset21_eq offs21) s)
  case bcnez =>
    exact (floating_ready hready _).trans (branchIf_eq _ Bool.decide_eq_true.symm (offset21_eq offs21) s)

/-! Jumps (R307, R308, R311). -/

/-- An instruction that writes a link and goes elsewhere writes the register as one that goes on does. -/
theorem completes_jumpTo_gprSet {i : Instr} {s : State} {rd : Reg} {v target goal : Word}
    (h : exec i s = .next (jumpTo target (gprSet rd v s))) (htarget : target = goal) :
    completes i s fun t => t.pc = goal ∧ wroteGpr rd v s { t with pc := s.pc + 4 } :=
  ⟨_, h, htarget, wroteGpr_gprSet rd v s⟩

/-- Settles O18: each target is a word and four times an offset, the link of BL and JIRL the address after the jump. -/
theorem jumpResult : Obligations.JumpResult := by
  intro s rd rj offs far
  have hfar : s.pc + offset26 far = BitVec.ofInt 32 (s.pc.toInt + 4 * far.toInt) := by rw [offset26_eq, add_ofInt]
  refine ⟨?b, ?bl, ?jirl⟩
  case b =>
    rw [← hfar]
    rfl
  case bl => exact completes_jumpTo_gprSet rfl hfar
  case jirl =>
    refine completes_jumpTo_gprSet rfl ?_
    rw [offset16_eq, add_ofInt]

end Sys2Proof.Machine

/-! SUPPORT. PRELD and the barriers, and the reservation pair (R329, R335 to R343). -/

namespace Sys2Proof.Machine

/-! Prefetch and barriers. -/

/-- IBAR keeps the older words that still wait for a cache operation, and no others (R343). -/
theorem exec_ibar (level : BitVec 15) (s : State) :
    exec (.ibar level) s = .next { s with pc := s.pc + 4, stale := s.stale.filter fun w => w.stage ≠ .invalidated } := rfl

/-- Settles O23: PRELD and DBAR only go on; what IBAR filters out is what a fetch no longer sees. -/
theorem hintsAndBarriers : Obligations.HintsAndBarriers := by
  intro s hint rj si12 level
  have hkept (w : StaleWord) :
      w ∈ (s.stale.filter fun w => w.stage ≠ .invalidated) ↔ w ∈ s.stale ∧ w.stage ≠ .invalidated := by
    rw [List.mem_filter, decide_eq_true_eq]
  refine ⟨rfl, rfl, _, exec_ibar level s, rfl, hkept,
    fun pa hpa => seenWord_of_no_older fun w hw haddr => ?_⟩
  obtain ⟨hold, hstage⟩ := (hkept w).mp hw
  exact hstage (hpa w hold haddr)

/-! The address and the target of LL.W and SC.W (R335, R338, R150). -/

theorem address14_eq (rj : Reg) (i : BitVec 14) (s : State) :
    address14 rj i s = BitVec.ofInt 32 ((gprGet rj s).toInt + 4 * i.toInt) := by
  rw [address14, simm14, signExtend_shifted i (by decide), add_ofInt]

theorem resolveReserved_cached {k : AccessKind} {va : Word} {s : State} {t : Target} (h : resolve k 4 va s = .ok t)
    (hmat : t.mat = 1) : resolveReserved k va s = .ok t := by
  rw [resolveReserved, h, bind_ok, if_pos hmat]

theorem resolveReserved_uncached {k : AccessKind} {va : Word} {s : State} {t : Target} (h : resolve k 4 va s = .ok t)
    (hmat : t.mat ≠ 1) : resolveReserved k va s = .refuse .uncachedReservation := by
  rw [resolveReserved, h, bind_ok, if_neg hmat]

theorem placed_something {t : Target} {s : State} {kind : Config.RegionKind} (h : regionKind t.pa s = kind)
    (hk : kind ≠ .nothing) : placed t s = .ok ⟨t, kind⟩ :=
  placed_eq_ok.mpr ⟨by rw [h], by rwa [h]⟩

/-! Whether SC.W stores (R336, D6; log 18, 66). -/

theorem scAddressFits_iff {pa : Nat} {s : State} : scAddressFits pa s = true ↔
    s.cfg.scAddrCheck = .unchecked ∨ (s.cfg.scAddrCheck = .sameWord ∧ pa / 4 = s.lladdr / 4) ∨
      (s.cfg.scAddrCheck = .sameLine ∧ pa / 2 ^ s.cfg.dcache.offset = s.lladdr / 2 ^ s.cfg.dcache.offset) := by
  rw [scAddressFits]
  cases s.cfg.scAddrCheck <;> simp [sameLine_iff]

/-- The very address LL.W recorded fits under every check. -/
theorem scAddressFits_lladdr (s : State) : scAddressFits s.lladdr s = true := by
  rw [scAddressFits_iff]
  cases s.cfg.scAddrCheck <;> simp

theorem scSucceeds_of_fits {pa : Nat} {s : State} (hll : s.llbit = true) (h : pa = s.lladdr ∨ scAddressFits pa s = true) :
    scSucceeds pa s = true := by
  rw [scSucceeds, hll, Bool.true_and]
  obtain rfl | hfits := h
  · exact scAddressFits_lladdr s
  · exact hfits

theorem scSucceeds_eq_false {pa : Nat} {s : State} (h : s.llbit = false ∨
      (s.cfg.scAddrCheck = .sameWord ∧ pa / 4 ≠ s.lladdr / 4) ∨
      (s.cfg.scAddrCheck = .sameLine ∧ pa / 2 ^ s.cfg.dcache.offset ≠ s.lladdr / 2 ^ s.cfg.dcache.offset)) :
    scSucceeds pa s = false := by
  rw [scSucceeds, Bool.and_eq_false_iff, ← Bool.not_eq_true (scAddressFits pa s), scAddressFits_iff]
  refine h.imp_right ?_
  rintro (⟨hcheck, hne⟩ | ⟨hcheck, hne⟩) <;> simp [hcheck, hne]

theorem scLLbit_of_llbit {s : State} (h : s.llbit = true) : scLLbit s = !s.cfg.scClearsLLbit := by
  rw [scLLbit, h, Bool.true_and]

/-! What a store of a word leaves. -/

/-- What a store to RAM leaves is what the statements call `stored`. -/
theorem storeAt_ram_stored {n : Nat} {va : Word} {s : State} {q : Place} (hs : s.mem.wf)
    (hq : locate .store n va s = .ok q) (hk : q.kind = .ram) (v : DWord) :
    ∃ m l, storeAt q n v s = .ok { s with mem := m, stale := l } ∧
      stored q.target n v s { s with mem := m, stale := l } := by
  obtain ⟨t, ht, hstored, _⟩ := storeThen_ram (v := v) hs hq hk fun _ _ => rfl
  rw [storeThen, hq, finish_ok, storeAt_ram hk, finish_ok] at ht
  cases ht
  exact ⟨_, _, storeAt_ram hk n v s, hstored⟩

/-- A word as a datum is all of its low four bytes. -/
theorem ofNat_toNat_setWidth_word (v : Word) :
    BitVec.ofNat 64 ((v.setWidth 64).toNat % 2 ^ (8 * 4)) = v.setWidth 64 := by
  have htoNat : (v.setWidth 64).toNat = v.toNat := BitVec.toNat_setWidth_of_le (by decide)
  rw [Nat.mod_eq_of_lt (htoNat ▸ v.isLt), BitVec.ofNat_toNat, BitVec.setWidth_eq]

section
variable {rj : Reg} {si14 : BitVec 14} {s : State} {p : Target}

/-! LL.W. -/

theorem exec_llW_uncached (h : resolve .load 4 (address14 rj si14 s) s = .ok p) (hmat : p.mat ≠ 1) (rd : Reg) :
    exec (.llW rd rj si14) s = .refused .uncachedReservation := by
  show execLlW rd rj si14 s = _
  rw [execLlW, resolveReserved_uncached h hmat, bind_refuse, finish_refuse]

theorem exec_llW_nothing (h : resolve .load 4 (address14 rj si14 s) s = .ok p) (hmat : p.mat = 1)
    (hk : regionKind p.pa s = .nothing) (rd : Reg) :
    exec (.llW rd rj si14) s = .refused (.nothingAtAddress p.pa) := by
  show execLlW rd rj si14 s = _
  rw [execLlW, resolveReserved_cached h hmat, bind_ok, placed_nothing hk, finish_refuse]

/-- LL.W on coherent cached memory with something there: a load of a word, and the reservation. -/
theorem exec_llW_placed {kind : Config.RegionKind} (h : resolve .load 4 (address14 rj si14 s) s = .ok p)
    (hmat : p.mat = 1) (hk : regionKind p.pa s = kind) (hsome : kind ≠ .nothing) (rd : Reg) :
    exec (.llW rd rj si14) s = .next (advance (gprSet rd (wholeWord (loadValue ⟨p, kind⟩ 4 s))
      { afterLoad ⟨p, kind⟩ 4 s with llbit := true, lladdr := p.pa })) := by
  show execLlW rd rj si14 s = _
  rw [execLlW, resolveReserved_cached h hmat, bind_ok, placed_something hk hsome, finish_ok]

theorem completes_llW_memory {kind : Config.RegionKind} (h : resolve .load 4 (address14 rj si14 s) s = .ok p)
    (hmat : p.mat = 1) (hk : regionKind p.pa s = kind) (hsome : kind ≠ .nothing) (hmem : kind ≠ .device) (rd : Reg) :
    completes (.llW rd rj si14) s fun t => t.llbit = true ∧ t.lladdr = p.pa ∧
      wroteGpr rd (s.mem.byte (p.pa + 3) ++ s.mem.byte (p.pa + 2) ++ s.mem.byte (p.pa + 1) ++ s.mem.byte p.pa) s
        { t with llbit := s.llbit, lladdr := s.lladdr } := by
  have hexec := exec_llW_placed h hmat hk hsome rd
  rw [loadValue_of_memory hmem, afterLoad_of_memory hmem, wholeWord, Memory.setWidth_read_four] at hexec
  exact ⟨_, hexec, rfl, rfl, wroteGpr_gprSet rd _ s⟩

theorem completes_llW_device (h : resolve .load 4 (address14 rj si14 s) s = .ok p) (hmat : p.mat = 1)
    (hk : regionKind p.pa s = .device) (rd : Reg) :
    ∃ d : DWord, d.toNat < 2 ^ 32 ∧ completes (.llW rd rj si14) s fun t =>
      t.llbit = true ∧ t.lladdr = p.pa ∧ t.io = ⟨false, p.pa, 4, d⟩ :: s.io ∧
      wroteGpr rd (BitVec.ofNat 32 d.toNat) s { t with llbit := s.llbit, lladdr := s.lladdr, io := s.io } := by
  have hexec := exec_llW_placed h hmat hk (by decide) rd
  rw [afterLoad_of_device rfl, wholeWord_eq] at hexec
  exact ⟨_, loadValue_of_device rfl (by decide) s, _, hexec, rfl, rfl, rfl, wroteGpr_gprSet rd _ s⟩

/-! SC.W. -/

theorem exec_scW_uncached (h : resolve .store 4 (address14 rj si14 s) s = .ok p) (hmat : p.mat ≠ 1) (rd : Reg) :
    exec (.scW rd rj si14) s = .refused .uncachedReservation := by
  show execScW rd rj si14 s = _
  rw [execScW, resolveReserved_uncached h hmat, finish_refuse]

/-- Without the reservation SC.W makes no access. -/
theorem completes_scW_fails (h : resolve .store 4 (address14 rj si14 s) s = .ok p) (hmat : p.mat = 1)
    (hfails : scSucceeds p.pa s = false) (rd : Reg) :
    completes (.scW rd rj si14) s fun t =>
      t.llbit = (s.llbit && !s.cfg.scClearsLLbit) ∧ wroteGpr rd 0 s { t with llbit := s.llbit } := by
  have hexec : exec (.scW rd rj si14) s = .next (advance (gprSet rd 0 { s with llbit := scLLbit s })) := by
    show execScW rd rj si14 s = _
    rw [execScW, resolveReserved_cached h hmat, finish_ok, if_neg (by simp [hfails])]
  exact ⟨_, hexec, rfl, wroteGpr_gprSet rd 0 s⟩

/-- With the reservation SC.W is a store of `rd`, if there is anything to store to. -/
theorem exec_scW_succeeds (h : resolve .store 4 (address14 rj si14 s) s = .ok p) (hmat : p.mat = 1)
    (hsucc : scSucceeds p.pa s = true) (rd : Reg) : exec (.scW rd rj si14) s =
      ((placed p s).bind fun q => storeAt q 4 ((gprGet rd s).setWidth 64) s).finish s fun u =>
        .next (advance (gprSet rd 1 { u with llbit := scLLbit s })) := by
  show execScW rd rj si14 s = _
  rw [execScW, resolveReserved_cached h hmat, finish_ok, if_pos hsucc]

theorem completes_scW_ram (hs : s.mem.wf) (h : resolve .store 4 (address14 rj si14 s) s = .ok p) (hmat : p.mat = 1)
    (hll : s.llbit = true) (hsucc : scSucceeds p.pa s = true) (hk : regionKind p.pa s = .ram) (rd : Reg) :
    completes (.scW rd rj si14) s fun t => t.llbit = !s.cfg.scClearsLLbit ∧ stored p 4 ((gprGet rd s).setWidth 64) s t ∧
      wroteGpr rd 1 s { t with llbit := s.llbit, mem := s.mem, stale := s.stale } := by
  have hplace := placed_something hk (by decide)
  have hlocate : locate .store 4 (address14 rj si14 s) s = .ok ⟨p, .ram⟩ := by rw [locate, h, bind_ok, hplace]
  obtain ⟨m, l, hstore, hstored⟩ := storeAt_ram_stored hs hlocate rfl ((gprGet rd s).setWidth 64)
  have hexec := exec_scW_succeeds h hmat hsucc rd
  rw [hplace, bind_ok, hstore, finish_ok] at hexec
  exact ⟨_, hexec, scLLbit_of_llbit hll, hstored, wroteGpr_gprSet rd 1 s⟩

theorem completes_scW_device (h : resolve .store 4 (address14 rj si14 s) s = .ok p) (hmat : p.mat = 1)
    (hll : s.llbit = true) (hsucc : scSucceeds p.pa s = true) (hk : regionKind p.pa s = .device) (rd : Reg) :
    completes (.scW rd rj si14) s fun t =>
      t.llbit = !s.cfg.scClearsLLbit ∧ t.io = ⟨true, p.pa, 4, (gprGet rd s).setWidth 64⟩ :: s.io ∧
      wroteGpr rd 1 s { t with llbit := s.llbit, io := s.io } := by
  have hexec := exec_scW_succeeds h hmat hsucc rd
  rw [placed_something hk (by decide), bind_ok, storeAt_device rfl (by decide), ofNat_toNat_setWidth_word, finish_ok] at hexec
  exact ⟨_, hexec, scLLbit_of_llbit hll, rfl, wroteGpr_gprSet rd 1 s⟩

theorem exec_scW_rom (h : resolve .store 4 (address14 rj si14 s) s = .ok p) (hmat : p.mat = 1)
    (hsucc : scSucceeds p.pa s = true) (hk : regionKind p.pa s = .rom) (rd : Reg) :
    exec (.scW rd rj si14) s = .refused (.storeToRom p.pa) := by
  rw [exec_scW_succeeds h hmat hsucc, placed_something hk (by decide), bind_ok, storeAt_rom rfl, finish_refuse]

theorem exec_scW_nothing (h : resolve .store 4 (address14 rj si14 s) s = .ok p) (hmat : p.mat = 1)
    (hsucc : scSucceeds p.pa s = true) (hk : regionKind p.pa s = .nothing) (rd : Reg) :
    exec (.scW rd rj si14) s = .refused (.nothingAtAddress p.pa) := by
  rw [exec_scW_succeeds h hmat hsucc, placed_nothing hk, bind_refuse, finish_refuse]

end

/-- Settles O24: each instruction by its access type, by what is there, and for SC.W by whether it still has the reservation. -/
theorem reservationPairResult : Obligations.ReservationPairResult := by
  rintro s rd rj si14 _ p hs rfl
  refine ⟨address14_eq rj si14 s, fun h => ⟨?llUncached, ?llMemory, ?llDevice, ?llNothing⟩,
    fun h => ⟨?scUncached, fun hmat hll hfits => ?scSucceeds, fun hmat hfails => ?scFails⟩⟩
  case llUncached => exact fun hmat => exec_llW_uncached h hmat rd
  case llMemory =>
    rintro hmat (hram | hrom)
    · exact completes_llW_memory h hmat hram (by decide) (by decide) rd
    · exact completes_llW_memory h hmat hrom (by decide) (by decide) rd
  case llDevice => exact fun hmat hk => completes_llW_device h hmat hk rd
  case llNothing => exact fun hmat hk => exec_llW_nothing h hmat hk rd
  case scUncached => exact fun hmat => exec_scW_uncached h hmat rd
  case scSucceeds =>
    have hsucc := scSucceeds_of_fits hll (hfits.imp_right scAddressFits_iff.mpr)
    exact ⟨fun hk => completes_scW_ram hs h hmat hll hsucc hk rd, fun hk => completes_scW_device h hmat hll hsucc hk rd,
      fun hk => exec_scW_rom h hmat hsucc hk rd, fun hk => exec_scW_nothing h hmat hsucc hk rd⟩
  case scFails => exact completes_scW_fails h hmat (scSucceeds_eq_false hfails) rd

end Sys2Proof.Machine

/-! SUPPORT. Words of the counter reads, of FCMP and of the condition-flag branches that name no instruction (R356, R416,
R455). -/

namespace Sys2Proof

/-! The counter reads and the RDTIME words (R231, R356). -/

theorem decodeCounter_rdtimel {w : Word} (hop : op22 w = 0x18) (hj : rjOf w ≠ 0) (hd : rdOf w ≠ 0) :
    decodeCounter w = .error .rdtime := by
  rw [decodeCounter, hop]
  exact (if_neg hj).trans (if_neg hd)

theorem decodeCounter_rdtimeh {w : Word} (hop : op22 w = 0x19) (hj : rjOf w ≠ 0) : decodeCounter w = .error .rdtime := by
  rw [decodeCounter, hop]
  exact if_neg hj

theorem decodeWord_counter {w : Word} (h6 : op6 w = 0) (h8 : op8 w = 0) : decodeWord w = decodeCounter w := by
  simp [decodeWord, h6, decodeGroup0, h8]

/-! The conditions of FCMP (R416). -/

/-- The conditions that are no row of R416's table. -/
def absentConditions : List (BitVec 5) := [0x12, 0x13, 0x16, 0x17, 0x1A, 0x1B, 0x1C, 0x1D, 0x1E, 0x1F]

theorem decodeFcmpS_absent {w : Word} (h : raOf w ∈ absentConditions) : decodeFcmpS w = .error .undefined := by
  unfold decodeFcmpS
  split
  case h_23 => rfl
  all_goals next hcond => exact absurd (hcond ▸ h) (by decide)

theorem decodeFcmpD_absent {w : Word} (h : raOf w ∈ absentConditions) : decodeFcmpD w = .error .undefined := by
  unfold decodeFcmpD
  split
  case h_23 => rfl
  all_goals next hcond => exact absurd (hcond ▸ h) (by decide)

theorem decodeWord_fcmpS (cond fk fj : BitVec 5) (cd : CFlag) : decodeWord (enc4R 0x0C1 cond fk fj (flagSlot cd)) =
    decodeFcmpS (enc4R 0x0C1 cond fk fj (flagSlot cd)) := by
  simp [decodeWord, decodeGroup3]

theorem decodeWord_fcmpD (cond fk fj : BitVec 5) (cd : CFlag) : decodeWord (enc4R 0x0C2 cond fk fj (flagSlot cd)) =
    decodeFcmpD (enc4R 0x0C2 cond fk fj (flagSlot cd)) := by
  simp [decodeWord, decodeGroup3]

/-! The condition-flag branches (R455, R456). -/

theorem decodeFlagBranch_absent {w : Word} (h : 2 ≤ (w.extractLsb' 8 2).toNat) : decodeFlagBranch w = .error .undefined := by
  unfold decodeFlagBranch
  split
  case h_1 hkind | h_2 hkind => exact absurd (hkind ▸ h) (by decide)
  case h_3 => rfl

theorem decodeWord_flagBranch (offs : BitVec 21) (kind : BitVec 2) (cj : CFlag) :
    decodeWord (enc1RI21 0x12 offs kind cj) = decodeFlagBranch (enc1RI21 0x12 offs kind cj) := by
  simp [decodeWord]

/-- Settles O4: each word reaches the decoder of its group, where its field has no row. -/
theorem wordsOfNoInstruction : Obligations.WordsOfNoInstruction := by
  refine ⟨fun rd rj hd hj => ?rdtimel, fun rd rj hj => ?rdtimeh, fun cond fk fj cd hcond => ⟨?single, ?double⟩,
    fun offs kind cj hkind => ?branch⟩
  case rdtimel =>
    rw [decodeWord_counter (by simp) (by simp)]
    exact decodeCounter_rdtimel (op22_enc2R ..) (by rwa [rjOf_enc2R]) (by rwa [rdOf_enc2R])
  case rdtimeh =>
    rw [decodeWord_counter (by simp) (by simp)]
    exact decodeCounter_rdtimeh (op22_enc2R ..) (by rwa [rjOf_enc2R])
  case single =>
    rw [decodeWord_fcmpS]
    exact decodeFcmpS_absent (by rwa [raOf_enc4R])
  case double =>
    rw [decodeWord_fcmpD]
    exact decodeFcmpD_absent (by rwa [raOf_enc4R])
  case branch =>
    rw [decodeWord_flagBranch]
    exact decodeFlagBranch_absent (by rwa [branchBits_enc1RI21])

end Sys2Proof

/-! SUPPORT. System call, breakpoint and the counter reads (R350 to R354). -/

namespace Sys2Proof.Machine

/-! Entry to an exception that records no address (R530, R540, R542). -/

/-- A field that lies under the mask comes from the value written (R69). -/
theorem extractLsb'_setBits_of_mask (r v : Word) {mask : Word} {start n : Nat} (hn : start + n ≤ 32)
    (hmask : ∀ k < n, mask.getLsbD (start + k) = true) : (setBits r mask v).extractLsb' start n = v.extractLsb' start n := by
  ext k hk
  rw [BitVec.getElem_extractLsb', BitVec.getElem_extractLsb', getLsbD_setBits _ _ _ (by omega), hmask k hk, if_pos rfl]

/-- The Ecode field of ESTAT after entry (R530, R540). -/
theorem ecode_entryStatus (x : Exc) (estat : Word) : (entryStatus x estat).extractLsb' 16 6 = x.ecode := by
  rw [entryStatus, extractLsb'_setBits_of_mask _ _ (by decide) (by decide)]
  exact (extract_of_hi _ (0 : BitVec 16) 0 6 rfl).trans ((extract_of_lo _ x.ecode 0 6 (by decide)).trans (extract_all x.ecode))

theorem recordsVppn_of_recordsBadv {x : Exc} (h : x.recordsBadv = false) : x.recordsVppn = false := by
  simp only [Exc.recordsBadv, Bool.or_eq_false_iff] at h
  obtain ⟨⟨hvppn, _⟩, _⟩ := h
  exact hvppn

theorem entryAddress_of_ne_tlbr {x : Exc} (h : x ≠ .TLBR) (s : State) : entryAddress x s = s.csr.eentry &&& 0xFFFFFFC0 := by
  rw [entryAddress, if_neg h]

/-- An instruction that does nothing but take an exception which records no address, and is no TLB refill. -/
theorem completes_enter {i : Instr} {s : State} {x : Exc} (hexec : exec i s = .next (enter x 0 s))
    (hbadv : x.recordsBadv = false) (htlbr : x ≠ .TLBR) : completes i s fun t =>
      t.csr.era = s.pc ∧ t.csr.estat.extractLsb' 16 6 = x.ecode ∧ t.csr.badv = s.csr.badv ∧ t.csr.tlbehi = s.csr.tlbehi ∧
      t.pc = s.csr.eentry &&& 0xFFFFFFC0 ∧ t.gpr = s.gpr ∧ t.mem = s.mem := by
  have hvppn := recordsVppn_of_recordsBadv hbadv
  refine ⟨_, hexec, rfl, ecode_entryStatus x s.csr.estat, ?badv, ?tlbehi, entryAddress_of_ne_tlbr htlbr s, rfl, rfl⟩
  case badv => simp [hbadv]
  case tlbehi => simp [hvppn]

theorem exec_syscall (code : BitVec 15) (s : State) : exec (.syscall code) s = .next (enter .SYS 0 s) := rfl

theorem exec_brk (code : BitVec 15) (s : State) : exec (.brk code) s = .next (enter .BRK 0 s) := rfl

/-! The counter reads (R352, R353, R354). -/

theorem exec_rdcntvlW (rd : Reg) (s : State) :
    exec (.rdcntvlW rd) s = .next (advance (gprSet rd (s.counter.extractLsb' 0 32) s)) := rfl

theorem exec_rdcntvhW (rd : Reg) (s : State) :
    exec (.rdcntvhW rd) s = .next (advance (gprSet rd (s.counter.extractLsb' 32 32) s)) := rfl

theorem exec_rdcntid (rj : Reg) (s : State) : exec (.rdcntid rj) s = .next (advance (gprSet rj s.csr.tid s)) := rfl

/-- A field of a vector as a number: what is left of the vector's value without the bits below the field. -/
theorem extractLsb'_eq_ofNat_div {w : Nat} (x : BitVec w) (k n : Nat) :
    x.extractLsb' k n = BitVec.ofNat n (x.toNat / 2 ^ k) := by
  rw [BitVec.extractLsb', Nat.shiftRight_eq_div_pow]

/-- Settles O30: the exceptions record no address; each counter read is one register write. -/
theorem systemCallAndCounterResult : Obligations.SystemCallAndCounterResult := by
  refine ⟨fun s code => ⟨exec_syscall code s, exec_brk code s, ?syscall, ?brk⟩, fun s rd rj => ⟨?low, ?high, ?id⟩⟩
  case syscall => exact completes_enter (exec_syscall code s) rfl (by decide)
  case brk => exact completes_enter (exec_brk code s) rfl (by decide)
  case low =>
    refine completes_gprSet (exec_rdcntvlW rd s) ?_
    rw [extractLsb'_eq_ofNat_div, pow_zero, Nat.div_one]
  case high => exact completes_gprSet (exec_rdcntvhW rd s) (extractLsb'_eq_ofNat_div s.counter 32 32)
  case id => exact completes_gprSet (exec_rdcntid rj s) rfl

end Sys2Proof.Machine

/-! SUPPORT. How the floating-point instructions end: availability (R361), the status procedure (R366), and the bit edits (R402 to
R405, R412 to R415). -/

namespace Sys2Proof.Machine

/-! The status procedure as the statements word it. -/

/-- An operation that raised `e` ends with its result written and its status recorded, or, where one of `e` is enabled, in FPE. -/
def EndsByStatus (i : Instr) (e : BitVec 5) (s : State) (wrote : State → Prop) : Prop :=
  (e &&& s.fcsr0.extractLsb' 0 5 = 0 → completes i s fun t => wrote t ∧ statusAfter e s t) ∧
  (e &&& s.fcsr0.extractLsb' 0 5 ≠ 0 →
    ∃ u, exec i s = .next (enter .FPE 0 u) ∧ u = { s with fcsr0 := u.fcsr0 } ∧ trappedStatus e s u)

/-- An instruction that ends with the status procedure does so where its write leaves fcsr0 to the procedure. -/
theorem endsByStatus_of_fpCommit {i : Instr} {e : BitVec 5} {s : State} {write : State → State} {wrote : State → Prop}
    (hexec : exec i s = fpCommit e s write) (hwrote : wrote (advance (write (addFpFlags e (setFpCause e s)))))
    (hfcsr : ∀ u, (write u).fcsr0 = u.fcsr0) : EndsByStatus i e s wrote := by
  refine ⟨fun hquiet => ?_, fun htrap => ?_⟩
  · refine ⟨_, hexec.trans (fpCommit_quiet hquiet write), hwrote, ?_⟩
    rw [statusAfter, advance_fcsr0, hfcsr]
    exact statusAfter_quiet e s
  · exact ⟨_, hexec.trans (fpCommit_trap htrap write), rfl, trappedStatus_cause e s⟩

theorem endsByStatus_commitS {i : Instr} {double : Bool} {s : State} {fd : FReg} {r : FpResult fp32.width}
    (h : floatReady double s) (hexec : exec i s = floating double s (commitS fd r s)) :
    EndsByStatus i r.exc s (wroteSingle fd r.bits s) :=
  endsByStatus_of_fpCommit (hexec.trans (floating_ready h _)) (wroteSingle_fprSetW fd r.bits (addFpFlags r.exc (setFpCause r.exc s)))
    fun _ => rfl

theorem endsByStatus_commitD {i : Instr} {double : Bool} {s : State} {fd : FReg} {r : FpResult fp64.width}
    (h : floatReady double s) (hexec : exec i s = floating double s (commitD fd r s)) :
    EndsByStatus i r.exc s (wroteDouble fd r.bits s) :=
  endsByStatus_of_fpCommit (hexec.trans (floating_ready h _)) (wroteDouble_fprSet fd r.bits (addFpFlags r.exc (setFpCause r.exc s)))
    fun _ => rfl

theorem endsByStatus_commitFlag {i : Instr} {double : Bool} {s : State} {cd : CFlag} {cond : BitVec 5} {f : FpFormat}
    {x y : BitVec f.width} (h : floatReady double s) (hexec : exec i s = floating double s (commitFlag cd cond x y s)) :
    EndsByStatus i (compareExc cond x y) s (wroteFlag cd (condHolds cond (relation x y)) s) :=
  endsByStatus_of_fpCommit (hexec.trans (floating_ready h _))
    (wroteFlag_cfSet cd _ (addFpFlags (compareExc cond x y) (setFpCause (compareExc cond x y) s))) fun _ => rfl

/-- Settles O45: each of the thirty instructions delivers the result the statement gives it. -/
theorem arithmeticResult : Obligations.ArithmeticResult := by
  intro s fd fj fk fa
  refine ⟨fun h q hq => endsByStatus_commitS (i := q.1) (r := q.2) h ?single,
    fun h q hq => endsByStatus_commitD (i := q.1) (r := q.2) h ?double⟩
  case single => fin_cases hq <;> rfl
  case double => fin_cases hq <;> rfl

/-- Settles O57: each conversion delivers the result the statement gives it. -/
theorem conversionResult : Obligations.ConversionResult := by
  intro s fd fj
  refine ⟨fun q hq h => endsByStatus_commitS (i := q.1) (r := q.2.2) h ?word,
    fun q hq h => endsByStatus_commitD (i := q.1) (r := q.2) h ?double⟩
  case word => fin_cases hq <;> rfl
  case double => fin_cases hq <;> rfl

/-! Comparisons (R400, R401, R416). -/

/-- A condition whose bits say the relations of its row and whether it signals. -/
def CondIs (cond : BitVec 5) (signalling : Bool) (row : List FpRelation) : Prop :=
  cond.getLsbD 0 = signalling ∧ ∀ r, condHolds cond r = decide (r ∈ row)

/-- A comparison under a condition of the table ends as its row says. -/
theorem endsByStatus_compare {i : Instr} {double signalling : Bool} {row : List FpRelation} {s : State} {cd : CFlag} {f : FpFormat}
    {x y : BitVec f.width} {e : BitVec 5} (h : floatReady double s)
    (he : e = if isSNan x || isSNan y || (signalling && (isNan x || isNan y)) then 0x10 else 0)
    (hrow : ∃ cond, exec i s = floating double s (commitFlag cd cond x y s) ∧ CondIs cond signalling row) :
    EndsByStatus i e s (wroteFlag cd (decide (relation x y ∈ row)) s) := by
  obtain ⟨cond, hexec, hsignalling, hholds⟩ := hrow
  have hexc : compareExc cond x y = e := by rw [compareExc, hsignalling, he]
  rw [← hholds, ← hexc]
  exact endsByStatus_commitFlag h hexec

/-- Settles O51: each row of the table is the condition its instruction carries. -/
theorem compareFlagResult : Obligations.CompareFlagResult := by
  intro s cd fj fk
  refine ⟨fun h x y hx hy q hq e he => endsByStatus_compare (f := fp32) (i := q.1) h he ?single,
    fun h x y hx hy q hq e he => endsByStatus_compare (f := fp64) (i := q.1) h he ?double⟩
  case single =>
    subst hx hy
    fin_cases hq <;> exact ⟨_, rfl, rfl, fun r => by cases r <;> rfl⟩
  case double =>
    subst hx hy
    fin_cases hq <;> exact ⟨_, rfl, rfl, fun r => by cases r <;> rfl⟩

/-! Sign and class (R402 to R405, R412 to R415). -/

/-- The bit of FCLASS's result, over the fields (R414). -/
theorem classBit_eq {f : FpFormat} (x : BitVec f.width) : classBit x =
    if expField x = 2 ^ f.expBits - 1 then
      (if fracField x = 0 then (if x.msb then 2 else 6) else if x.getLsbD (f.fracBits - 1) then 1 else 0)
    else if expField x ≠ 0 then (if x.msb then 3 else 7)
    else if fracField x ≠ 0 then (if x.msb then 4 else 8)
    else (if x.msb then 5 else 9) := by
  rw [classBit, view_eq, isSNan, isNan, signBit]
  by_cases hones : expField x = 2 ^ f.expBits - 1
  · by_cases hfrac : fracField x = 0
    · simp [hones, hfrac]
    · simp [hones, hfrac]
      cases x.getLsbD (f.fracBits - 1) <;> rfl
  · by_cases hzero : expField x = 0
    · rw [hzero] at hones
      by_cases hfrac : fracField x = 0 <;> simp [hzero, hfrac, hones]
    · simp [hones, hzero]

theorem toNat_eq_iff {w n : Nat} (v : BitVec w) (h : n < 2 ^ w) : v.toNat = n ↔ v = BitVec.ofNat w n := by
  rw [BitVec.toNat_eq, BitVec.toNat_ofNat, Nat.mod_eq_of_lt h]

theorem classBit_single (x : Word) : classBit (f := fp32) x =
    if x.extractLsb' 23 8 = 0xFF then
      (if x.extractLsb' 0 23 = 0 then (if x.msb then 2 else 6) else if x.getLsbD 22 then 1 else 0)
    else if x.extractLsb' 23 8 ≠ 0 then (if x.msb then 3 else 7)
    else if x.extractLsb' 0 23 ≠ 0 then (if x.msb then 4 else 8)
    else (if x.msb then 5 else 9) := by
  rw [classBit_eq, expField_eq, fracField_eq]
  simp only [ne_eq, toNat_eq_iff _ (show 2 ^ 8 - 1 < 2 ^ 8 by decide), toNat_eq_iff _ (Nat.two_pow_pos _)]
  rfl

theorem classBit_double (x : DWord) : classBit (f := fp64) x =
    if x.extractLsb' 52 11 = 0x7FF then
      (if x.extractLsb' 0 52 = 0 then (if x.msb then 2 else 6) else if x.getLsbD 51 then 1 else 0)
    else if x.extractLsb' 52 11 ≠ 0 then (if x.msb then 3 else 7)
    else if x.extractLsb' 0 52 ≠ 0 then (if x.msb then 4 else 8)
    else (if x.msb then 5 else 9) := by
  rw [classBit_eq, expField_eq, fracField_eq]
  simp only [ne_eq, toNat_eq_iff _ (show 2 ^ 11 - 1 < 2 ^ 11 by decide), toNat_eq_iff _ (Nat.two_pow_pos _)]
  rfl

/-- Settles O55: each edit is one register write behind the availability check. -/
theorem signAndClassResult : Obligations.SignAndClassResult := by
  intro s fd fj fk
  refine ⟨fun h => ⟨?fabsS, ?fnegS, ?fcopysignS, fun x k hx hk => ?fclassS⟩,
    fun h => ⟨?fabsD, ?fnegD, ?fcopysignD, fun x k hx hk => ?fclassD⟩⟩
  case fabsS | fnegS | fcopysignS => exact completes_fprSetW (floating_ready h _)
  case fabsD | fnegD | fcopysignD => exact completes_fprSet (floating_ready h _) rfl
  case fclassS =>
    rw [← classBit_single] at hk
    subst hx hk
    exact completes_fprSetW (floating_ready h _)
  case fclassD =>
    rw [← classBit_double] at hk
    subst hx hk
    exact completes_fprSet (floating_ready h _) rfl

/-! Availability (R361, D5). -/

theorem op6_eq_op8 (w : Word) : op6 w = (op8 w).extractLsb' 2 6 := by
  refine BitVec.eq_of_getLsbD_eq fun k hk => ?_
  rw [op6, op8, BitVec.getLsbD_extractLsb', BitVec.getLsbD_extractLsb', BitVec.getLsbD_extractLsb',
    decide_eq_true (by omega : 2 + k < 8), Bool.true_and, ← Nat.add_assoc]

theorem op10_high_eq_op8 (w : Word) : (op10 w).extractLsb' 2 8 = op8 w := by
  refine BitVec.eq_of_getLsbD_eq fun k hk => ?_
  rw [op10, op8, BitVec.getLsbD_extractLsb', BitVec.getLsbD_extractLsb', BitVec.getLsbD_extractLsb',
    decide_eq_true (by omega : 2 + k < 10), Bool.true_and, ← Nat.add_assoc]

/-- Whether an instruction is a floating-point one shows in the top eight bits of its word. -/
theorem isFloat_eq (i : Instr) : isFloat i =
    (op8 (encodeWord i) == 0x01 || (op8 (encodeWord i)).extractLsb' 2 6 == 0x02 ||
      (op8 (encodeWord i)).extractLsb' 2 6 == 0x03 || (op8 (encodeWord i)).extractLsb' 2 6 == 0x12 ||
      op8 (encodeWord i) == 0x2b) := by
  rw [isFloat, op6_eq_op8, op10_high_eq_op8]

/-- The top six bits of a floating-point instruction's word. -/
theorem op6_of_isFloat {i : Instr} (h : isFloat i = true) : op6 (encodeWord i) ∈ [(0x00 : BitVec 6), 0x02, 0x03, 0x0a, 0x12] := by
  rw [isFloat_eq] at h
  rw [op6_eq_op8]
  revert h
  generalize op8 (encodeWord i) = v
  revert v
  decide

/-- A floating-point instruction's meaning stands behind the availability check. -/
theorem exec_floating {i : Instr} (hi : isFloat i = true) (s : State) : ∃ k, exec i s = floating (namesDouble i) s k := by
  have hop8 := isFloat_eq i ▸ hi
  have hop6 := op6_of_isFloat hi
  cases i
  case rdcntid | rdcntvlW | rdcntvhW | addW | subW | slt | sltu | nor | and | or | xor | sllW | srlW | sraW | mulW
      | mulhW | mulhWu | divW | modW | divWu | modWu | brk | syscall | slliW | srliW | sraiW | slti | sltui | addiW | andi
      | ori | xori | ldB | ldH | ldW | stB | stH | stW | ldBu | ldHu | preld =>
    simp [encodeWord] at hop8
  case csrrd | csrwr | csrxchg | cacop | idle | invtlb | lu12iW | pcaddu12i | llW | scW | dbar | ibar | jirl | b | bl | beq
      | bne | blt | bge | bltu | bgeu =>
    simp [encodeWord] at hop6
  case tlbsrch | tlbrd | tlbwr | tlbfill | ertn => exact absurd hop6 (by decide)
  all_goals exact ⟨_, rfl⟩

theorem floating_absent {double : Bool} {s : State} (h : s.cfg.fpLevel = .none ∨ (s.cfg.fpLevel = .single ∧ double = true))
    (k : Result) : floating double s k = .next (enter .INE 0 s) := if_pos h

theorem floating_disabled {double : Bool} {s : State} (hthere : s.cfg.fpLevel ≠ .none)
    (hdouble : s.cfg.fpLevel = .single → double = false) (hoff : s.csr.euen.getLsbD 0 = false) (k : Result) :
    floating double s k = .next (enter .FPD 0 s) := by
  rw [floating, if_neg, floatEnabled, hoff]
  · rfl
  · rintro (hnone | ⟨hsingle, htrue⟩)
    · exact hthere hnone
    · exact absurd htrue (by simp [hdouble hsingle])

/-- Settles O60: every floating-point instruction begins with the availability check. -/
theorem floatUnavailable : Obligations.FloatUnavailable := by
  intro i s hi
  obtain ⟨k, hexec⟩ := exec_floating hi s
  rw [hexec]
  refine ⟨fun hnone => floating_absent (.inl hnone) k, fun hfull hoff => ?full, fun hsingle => ⟨fun hdouble => ?_, fun hdouble hoff => ?_⟩⟩
  case full => exact floating_disabled (by simp [hfull]) (by simp [hfull]) hoff k
  · exact floating_absent (.inr ⟨hsingle, hdouble⟩) k
  · exact floating_disabled (by simp [hsingle]) (fun _ => hdouble) hoff k

end Sys2Proof.Machine

/-! SUPPORT. Data under edits of one bit, the special data, and operands that are NaNs (R365, R371); the maxima and minima. -/

namespace Sys2Proof.Machine

/-! A datum and its fields. -/

/-- A datum is packed from its sign and its other bits. -/
theorem packFp_fields {f : FpFormat} (x : BitVec f.width) :
    packFp f (signBit x) (expField x * 2 ^ f.fracBits + fracField x) = x := by
  have hlast : f.width - 1 = f.expBits + f.fracBits := by unfold FpFormat.width; omega
  have hlt : x.toNat < 2 * 2 ^ (f.expBits + f.fracBits) := by
    rw [← pow_succ']
    exact lt_of_lt_of_eq x.isLt (by rw [FpFormat.width]; congr 1; omega)
  have hlow : expField x * 2 ^ f.fracBits + fracField x = x.toNat % 2 ^ (f.expBits + f.fracBits) := by
    rw [expField, fracField, add_comm, pow_add, mul_comm (2 ^ f.expBits), Nat.mod_mul, mul_comm]
  have hbound := Nat.mod_lt x.toNat (Nat.two_pow_pos (f.expBits + f.fracBits))
  refine BitVec.eq_of_toNat_eq ?_
  rw [hlow, toNat_packFp _ hbound, signBit, BitVec.msb_eq_decide, hlast]
  simp only [decide_eq_true_eq]
  split
  case isTrue hge => rw [Nat.mod_eq_sub_mod hge, Nat.mod_eq_of_lt (by omega), Nat.add_sub_cancel' hge]
  case isFalse hlt => rw [Nat.mod_eq_of_lt (by omega), zero_add]

theorem eq_packFp_of_fields {f : FpFormat} {x : BitVec f.width} {e m : Nat} (he : expField x = e) (hm : fracField x = m) :
    x = packFp f x.msb (e * 2 ^ f.fracBits + m) := by
  subst he hm
  exact (packFp_fields x).symm

/-- Data that agree in all bits but the sign have the same fields. -/
theorem fields_of_same_magnitude {f : FpFormat} {x y : BitVec f.width}
    (h : ∀ k, k < f.expBits + f.fracBits → y.getLsbD k = x.getLsbD k) :
    expField y = expField x ∧ fracField y = fracField x := by
  rw [expField_eq, expField_eq, fracField_eq, fracField_eq]
  constructor <;> congr 1 <;> refine BitVec.eq_of_getLsbD_eq fun k hk => ?_ <;>
    rw [BitVec.getLsbD_extractLsb', BitVec.getLsbD_extractLsb', h _ (by omega)]

/-- A view with its sign replaced; a NaN has none. -/
def FpView.withSign (neg : Bool) : FpView → FpView
  | .nan => .nan
  | .inf _ => .inf neg
  | .fin _ m e => .fin neg m e

theorem view_of_same_magnitude {f : FpFormat} {x y : BitVec f.width}
    (h : ∀ k, k < f.expBits + f.fracBits → y.getLsbD k = x.getLsbD k) : view y = (view x).withSign y.msb := by
  obtain ⟨he, hm⟩ := fields_of_same_magnitude h
  unfold view
  rw [he, hm, signBit, signBit]
  split
  · split <;> rfl
  · split <;> rfl

theorem view_negated {f : FpFormat} (x : BitVec f.width) : view (negated x) = (view x).withSign (!x.msb) := by
  have hmsb : (negated x).msb = !x.msb := by
    rw [← signBit, ← signBit, signBit_eq, signBit_eq, getLsbD_negated x (by unfold FpFormat.width; omega)]
    simp
  rw [← hmsb]
  refine view_of_same_magnitude fun k hk => ?_
  rw [getLsbD_negated x (by unfold FpFormat.width; omega), decide_eq_false (by omega), Bool.bne_false]

theorem view_magnitudeOf {f : FpFormat} (x : BitVec f.width) : view (magnitudeOf x) = (view x).withSign false := by
  have hmsb : (magnitudeOf x).msb = false := by
    rw [← signBit, signBit_eq, getLsbD_magnitudeOf x (by unfold FpFormat.width; omega)]
    simp
  rw [← hmsb]
  refine view_of_same_magnitude fun k hk => ?_
  rw [getLsbD_magnitudeOf x (by unfold FpFormat.width; omega), decide_eq_true (by omega), Bool.and_true]

/-- The sign of a datum that is no NaN is its top bit. -/
theorem msb_of_view_fin {f : FpFormat} {x : BitVec f.width} {neg : Bool} {m : Nat} {e : Int} (h : view x = .fin neg m e) :
    x.msb = neg := by
  rw [view, signBit] at h
  split at h
  · split at h <;> simp at h
  · split at h
    · exact (FpView.fin.inj h).1
    · exact (FpView.fin.inj h).1

theorem msb_of_view_inf {f : FpFormat} {x : BitVec f.width} {neg : Bool} (h : view x = .inf neg) : x.msb = neg := by
  rw [view, signBit] at h
  split at h
  · split at h
    · exact FpView.inf.inj h
    · simp at h
  · split at h <;> simp at h

/-! The special data. -/

theorem infMagnitude_lt (f : FpFormat) : infMagnitude f < 2 ^ (f.expBits + f.fracBits) := by
  rw [infMagnitude, pow_add]
  exact Nat.mul_lt_mul_of_pos_right (Nat.sub_lt (by positivity) one_pos) (by positivity)

theorem view_fpInf (f : FpFormat) (neg : Bool) : view (fpInf f neg) = .inf neg := by
  have hmag := infMagnitude_lt f
  rw [view, fpInf, expField_packFp neg hmag, fracField_packFp neg hmag, signBit_packFp neg hmag, infMagnitude,
    Nat.mul_div_cancel _ (by positivity), Nat.mul_mod_left, if_pos rfl, if_pos rfl]

theorem view_fpZero {f : FpFormat} (hf : 0 < f.expBits) (neg : Bool) : view (fpZero f neg) = .fin neg 0 f.qmin := by
  have hmag : 0 < 2 ^ (f.expBits + f.fracBits) := by positivity
  have hones : 0 ≠ 2 ^ f.expBits - 1 := by
    have := Nat.one_lt_two_pow hf.ne'
    omega
  rw [view, fpZero, expField_packFp neg hmag, fracField_packFp neg hmag, signBit_packFp neg hmag, Nat.zero_div, Nat.zero_mod,
    if_neg hones, if_pos rfl]

/-- A format has one infinity of a sign. -/
theorem eq_fpInf_of_view {f : FpFormat} {x : BitVec f.width} {neg : Bool} (h : view x = .inf neg) : x = fpInf f neg := by
  have hmsb := msb_of_view_inf h
  rw [view] at h
  split at h
  case isTrue he =>
    split at h
    case isTrue hm => rw [eq_packFp_of_fields he hm, hmsb, add_zero, fpInf, infMagnitude]
    case isFalse => simp at h
  case isFalse => split at h <;> simp at h

/-- A format has one zero of a sign. -/
theorem eq_fpZero_of_view {f : FpFormat} {x : BitVec f.width} {neg : Bool} {e : Int} (h : view x = .fin neg 0 e) :
    x = fpZero f neg := by
  have hmsb := msb_of_view_fin h
  rw [view] at h
  split at h
  case isTrue => split at h <;> simp at h
  case isFalse =>
    split at h
    case isTrue he =>
      obtain ⟨_, hm, _⟩ := FpView.fin.inj h
      rw [eq_packFp_of_fields he hm, hmsb, zero_mul, fpZero]
    case isFalse =>
      obtain ⟨_, hm, _⟩ := FpView.fin.inj h
      exact absurd hm (by positivity)

theorem isNan_eq_false_of_view_fin {f : FpFormat} {x : BitVec f.width} {neg : Bool} {m : Nat} {e : Int}
    (h : view x = .fin neg m e) : isNan x = false := by
  rw [← Bool.not_eq_true, ← view_eq_nan_iff, h]
  nofun

theorem isNan_eq_false_of_view_inf {f : FpFormat} {x : BitVec f.width} {neg : Bool} (h : view x = .inf neg) : isNan x = false := by
  rw [← Bool.not_eq_true, ← view_eq_nan_iff, h]
  nofun

/-! NaNs. -/

theorem isNan_of_isSNan {f : FpFormat} {x : BitVec f.width} (h : isSNan x = true) : isNan x = true := by
  rw [isSNan, Bool.and_eq_true] at h
  exact h.1

theorem isNan_of_isQNan {f : FpFormat} {x : BitVec f.width} (h : isQNan x = true) : isNan x = true := by
  rw [isQNan, Bool.and_eq_true] at h
  exact h.1

theorem isSNan_of_isQNan {f : FpFormat} {x : BitVec f.width} (h : isQNan x = true) : isSNan x = false := by
  rw [isQNan, Bool.and_eq_true] at h
  rw [isSNan, h.2, Bool.not_true, Bool.and_false]

theorem isSNan_of_not_isNan {f : FpFormat} {x : BitVec f.width} (h : isNan x = false) : isSNan x = false := by
  rw [isSNan, h, Bool.false_and]

/-- Making a NaN quiet gives a quiet NaN: the exponent field stays, and the top fraction bit is set (R365). -/
theorem isQNan_quieted {f : FpFormat} (hf : 0 < f.fracBits) {x : BitVec f.width} (h : isNan x = true) :
    isQNan (quieted x) = true := by
  rw [isNan_iff] at h
  have hexp : expField (quieted x) = expField x := by
    rw [expField_eq, expField_eq]
    congr 1
    refine BitVec.eq_of_getLsbD_eq fun k hk => ?_
    rw [BitVec.getLsbD_extractLsb', BitVec.getLsbD_extractLsb', getLsbD_quieted x (by unfold FpFormat.width; omega),
      decide_eq_false (p := f.fracBits + k = f.fracBits - 1) (by omega), Bool.or_false]
  rw [isQNan_iff hf, hexp, getLsbD_quieted x (by unfold FpFormat.width; omega)]
  exact ⟨h.1, by simp⟩

theorem isNan_negated {f : FpFormat} (x : BitVec f.width) : isNan (negated x) = isNan x := by
  rw [Bool.eq_iff_iff, ← view_eq_nan_iff, ← view_eq_nan_iff, view_negated]
  cases view x <;> simp [FpView.withSign]

theorem negatedNumber_of_nan {f : FpFormat} {x : BitVec f.width} (h : isNan x = true) : negatedNumber x = x := if_pos h

theorem negatedNumber_of_not_nan {f : FpFormat} {x : BitVec f.width} (h : isNan x = false) : negatedNumber x = negated x := by
  rw [negatedNumber, if_neg (by simp [h])]

theorem negatedResult_of_nan {f : FpFormat} {r : FpResult f.width} (h : isNan r.bits = true) : negatedResult r = r := by
  rw [negatedResult, negatedNumber_of_nan h]

/-! The result NaN operands decide (R365). -/

theorem propagated_of_no_nan {f : FpFormat} {ops : List (BitVec f.width)} (h : ∀ v ∈ ops, isNan v = false) :
    propagated ops = none := by
  have hsnan : ops.find? isSNan = none := List.find?_eq_none.mpr fun v hv => by simp [isSNan_of_not_isNan (h v hv)]
  have hnan : ops.find? isNan = none := List.find?_eq_none.mpr fun v hv => by simp [h v hv]
  rw [propagated, hsnan, hnan]

/-- The first signalling NaN decides. -/
theorem propagated_of_snan {f : FpFormat} {ops : List (BitVec f.width)} {v : BitVec f.width} (h : ops.find? isSNan = some v) :
    propagated ops = some ⟨quieted v, 0x10⟩ := by
  rw [propagated, h]

/-- Where none signals the first NaN decides. -/
theorem propagated_of_qnan {f : FpFormat} {ops : List (BitVec f.width)} {v : BitVec f.width} (hs : ops.find? isSNan = none)
    (h : ops.find? isNan = some v) : propagated ops = some ⟨v, 0⟩ := by
  rw [propagated, hs, h]

/-- What NaN operands decide is a quiet NaN. -/
theorem isQNan_of_propagated {f : FpFormat} (hf : 0 < f.fracBits) {ops : List (BitVec f.width)} {p : FpResult f.width}
    (h : propagated ops = some p) : isQNan p.bits = true := by
  unfold propagated at h
  split at h
  case h_1 v hv =>
    obtain rfl := Option.some.inj h
    exact isQNan_quieted hf (isNan_of_isSNan (List.find?_some hv))
  case h_2 hnone =>
    split at h
    case h_1 v hv =>
      obtain rfl := Option.some.inj h
      have hquiet := List.find?_eq_none.mp hnone v (List.mem_of_find?_eq_some hv)
      have hnan : isNan v = true := List.find?_some hv
      simpa [isSNan, isQNan, hnan] using hquiet
    case h_2 => simp at h

/-- Whether an addend is negated before or not, NaN operands decide the same. -/
theorem propagated_negatedNumber {f : FpFormat} (before after : List (BitVec f.width)) (y : BitVec f.width) :
    propagated (before ++ negatedNumber y :: after) = propagated (before ++ y :: after) := by
  cases h : isNan y
  case true => rw [negatedNumber_of_nan h]
  case false =>
    have hneg := (isNan_negated y).trans h
    simp [negatedNumber_of_not_nan h, propagated, List.find?_append, h, hneg, isSNan_of_not_isNan h,
      isSNan_of_not_isNan hneg]

/-! Operations of one and two operands. -/

theorem fpAdd_of_propagated {f : FpFormat} {env : FpEnv} {x y : BitVec f.width} {p : FpResult f.width}
    (h : propagated [x, y] = some p) : fpAdd f env x y = p := by
  rw [fpAdd, h]

theorem fpSub_of_propagated {f : FpFormat} {env : FpEnv} {x y : BitVec f.width} {p : FpResult f.width}
    (h : propagated [x, y] = some p) : fpSub f env x y = p :=
  fpAdd_of_propagated ((propagated_negatedNumber [x] [] y).trans h)

theorem fpMul_of_propagated {f : FpFormat} {env : FpEnv} {x y : BitVec f.width} {p : FpResult f.width}
    (h : propagated [x, y] = some p) : fpMul f env x y = p := by
  rw [fpMul, h]

theorem fpDiv_of_propagated {f : FpFormat} {env : FpEnv} {x y : BitVec f.width} {p : FpResult f.width}
    (h : propagated [x, y] = some p) : fpDiv f env x y = p := by
  rw [fpDiv, h]

theorem fpSqrt_of_propagated {f : FpFormat} {env : FpEnv} {x : BitVec f.width} {p : FpResult f.width}
    (h : propagated [x] = some p) : fpSqrt f env x = p := by
  rw [fpSqrt, h]

theorem isNan_fpOne {f : FpFormat} (hf : f = fp32 ∨ f = fp64) : isNan (fpOne f) = false := by
  rcases hf with rfl | rfl <;> decide

/-- One is no NaN, so that of a reciprocal is the operand's. -/
theorem propagated_fpOne {f : FpFormat} (hf : f = fp32 ∨ f = fp64) (x : BitVec f.width) :
    propagated [fpOne f, x] = propagated [x] := by
  have h := isNan_fpOne hf
  simp [propagated, List.find?_cons, h, isSNan_of_not_isNan h]

theorem fpRecip_of_propagated {f : FpFormat} (hf : f = fp32 ∨ f = fp64) {env : FpEnv} {x : BitVec f.width} {p : FpResult f.width}
    (h : propagated [x] = some p) : fpRecip f env x = p :=
  fpDiv_of_propagated ((propagated_fpOne hf x).trans h)

theorem fpRsqrtOnce_of_propagated {f : FpFormat} {env : FpEnv} {x : BitVec f.width} {p : FpResult f.width}
    (h : propagated [x] = some p) : fpRsqrtOnce f env x = p := by
  rw [fpRsqrtOnce, h]

/-- The reciprocal of the quiet NaN that the root gave is that NaN, and raises nothing more. -/
theorem fpRsqrtTwice_of_propagated {f : FpFormat} (hf : f = fp32 ∨ f = fp64) {env : FpEnv} {x : BitVec f.width}
    {p : FpResult f.width} (h : propagated [x] = some p) : fpRsqrtTwice f env x = p := by
  have hquiet : isQNan p.bits = true := isQNan_of_propagated (by rcases hf with rfl | rfl <;> decide) h
  have hagain : propagated [p.bits] = some ⟨p.bits, 0⟩ :=
    propagated_of_qnan (by simp [isSNan_of_isQNan hquiet]) (by simp [isNan_of_isQNan hquiet])
  rw [fpRsqrtTwice, fpSqrt_of_propagated h, ← fpRecip, fpRecip_of_propagated hf hagain]
  simp

/-! The fused operations. -/

/-- Zero is the number a zero significand stands for. -/
theorem standsFor_zero_iff {f : FpFormat} (x : BitVec f.width) : standsFor x 0 ↔ ∃ neg e, view x = .fin neg 0 e := by
  constructor
  · rintro ⟨neg, m, e, hview, hzero⟩
    have hpow : (2 : ℝ) ^ e ≠ 0 := zpow_ne_zero _ two_ne_zero
    have hm : m = 0 := by cases neg <;> simpa [hpow, eq_comm] using hzero
    exact ⟨neg, e, hm ▸ hview⟩
  · rintro ⟨neg, e, hview⟩
    exact ⟨neg, 0, e, hview, by simp⟩

/-- NaN operands decide a fused operation, but for V where the product is zero times infinity (R371; log 54). -/
def FusedNan {f : FpFormat} (x y z : BitVec f.width) (r : FpResult f.width) : Prop :=
  ∀ p, propagated [z, x, y] = some p → r.bits = p.bits ∧ (r.exc = p.exc ∨ (zeroTimesInfinity x y ∧ r.exc = p.exc ||| 0x10))

theorem fusedNan_fpFma {f : FpFormat} (env : FpEnv) (x y z : BitVec f.width) : FusedNan x y z (fpFma f env x y z) := by
  intro p hp
  have hfree (hzero : zeroTimesInfinity x y) : (p.exc ||| if env.invalid then excV else 0) = p.exc ∨
      (zeroTimesInfinity x y ∧ (p.exc ||| if env.invalid then excV else 0) = p.exc ||| 0x10) := by
    cases env.invalid
    · exact .inl (by simp)
    · exact .inr ⟨hzero, rfl⟩
  rw [fpFma, hp]
  dsimp only
  split
  case h_1 hx hy => exact ⟨rfl, hfree (.inl ⟨⟨_, hx⟩, (standsFor_zero_iff y).mpr ⟨_, _, hy⟩⟩)⟩
  case h_2 hx hy => exact ⟨rfl, hfree (.inr ⟨(standsFor_zero_iff x).mpr ⟨_, _, hx⟩, _, hy⟩)⟩
  case h_3 => exact ⟨rfl, .inl rfl⟩

theorem fusedNan_fpFms {f : FpFormat} (env : FpEnv) (x y z : BitVec f.width) : FusedNan x y z (fpFms f env x y z) :=
  fun p hp => fusedNan_fpFma env x y (negatedNumber z) p ((propagated_negatedNumber [] [x, y] z).trans hp)

theorem FusedNan.negatedResult {f : FpFormat} (hf : 0 < f.fracBits) {x y z : BitVec f.width} {r : FpResult f.width}
    (h : FusedNan x y z r) : FusedNan x y z (negatedResult r) := by
  intro p hp
  have hr := h p hp
  have hnan : isNan r.bits = true := hr.1 ▸ isNan_of_isQNan (isQNan_of_propagated hf hp)
  rwa [negatedResult_of_nan hnan]

/-- Where the product is not zero times infinity NaN operands decide all of it. -/
theorem FusedNan.eq {f : FpFormat} {x y z : BitVec f.width} {r p : FpResult f.width} (h : FusedNan x y z r)
    (hzero : ¬ zeroTimesInfinity x y) (hp : propagated [z, x, y] = some p) : r = p := by
  obtain ⟨hbits, hexc | ⟨habsurd, _⟩⟩ := h p hp
  · cases r
    cases p
    simp_all
  · exact absurd habsurd hzero

theorem not_zeroTimesInfinity_of_nan {f : FpFormat} {x y : BitVec f.width} (h : isNan x = true ∨ isNan y = true) :
    ¬ zeroTimesInfinity x y := by
  rw [← view_eq_nan_iff, ← view_eq_nan_iff] at h
  rintro (⟨⟨_, hx⟩, ⟨_, _, _, hy, _⟩⟩ | ⟨⟨_, _, _, hx, _⟩, ⟨_, hy⟩⟩) <;> simp [hx, hy] at h

/-! A NaN moved to another format (R421, R422). -/

/-- A datum packed from its three fields. -/
theorem packFp_append (f : FpFormat) (neg : Bool) {e m : Nat} (he : e < 2 ^ f.expBits) (hm : m < 2 ^ f.fracBits) :
    packFp f neg (e * 2 ^ f.fracBits + m) = BitVec.ofBool neg ++ BitVec.ofNat f.expBits e ++ BitVec.ofNat f.fracBits m := by
  have hmag : e * 2 ^ f.fracBits + m < 2 ^ (f.expBits + f.fracBits) := by
    rw [pow_add]
    nlinarith [Nat.two_pow_pos f.fracBits]
  refine BitVec.eq_of_toNat_eq ?_
  rw [toNat_packFp neg hmag, BitVec.toNat_append, BitVec.toNat_append, BitVec.toNat_ofNat, BitVec.toNat_ofNat,
    Nat.mod_eq_of_lt he, Nat.mod_eq_of_lt hm, ← Nat.shiftLeft_add_eq_or_of_lt he, ← Nat.shiftLeft_add_eq_or_of_lt hm,
    Nat.shiftLeft_eq, Nat.shiftLeft_eq]
  cases neg
  · simp
  · simp [pow_add, add_mul, add_assoc]

theorem testBit_fracField {f : FpFormat} (x : BitVec f.width) (k : Nat) :
    (fracField x).testBit k = (decide (k < f.fracBits) && x.getLsbD k) := Nat.testBit_mod_two_pow _ _ _

/-- The fraction of a NaN moved to another format, before it is made quiet. -/
def movedFraction (f g : FpFormat) (x : BitVec f.width) : Nat :=
  if f.fracBits ≤ g.fracBits then fracField x * 2 ^ (g.fracBits - f.fracBits) else fracField x / 2 ^ (f.fracBits - g.fracBits)

theorem movedFraction_lt (f g : FpFormat) (x : BitVec f.width) : movedFraction f g x < 2 ^ g.fracBits := by
  have hfrac : fracField x < 2 ^ f.fracBits := Nat.mod_lt _ (Nat.two_pow_pos _)
  unfold movedFraction
  split
  case isTrue h =>
    rw [← Nat.sub_add_cancel h, Nat.add_sub_cancel, pow_add, mul_comm]
    exact Nat.mul_lt_mul_of_pos_left hfrac (Nat.two_pow_pos _)
  case isFalse h =>
    rw [Nat.div_lt_iff_lt_mul (Nat.two_pow_pos _), ← pow_add]
    exact hfrac.trans_eq (by congr 1; omega)

/-- The bits of a NaN moved to another format. -/
theorem getLsbD_convertedNan (f g : FpFormat) (x : BitVec f.width) {k : Nat} (hk : k < g.width) :
    (convertedNan f g x).getLsbD k = ((if k < g.fracBits then (movedFraction f g x).testBit k
      else if k < g.expBits + g.fracBits then true else x.msb) || decide (k = g.fracBits - 1)) := by
  have hpack : convertedNan f g x = quieted (BitVec.ofBool x.msb ++ BitVec.ofNat g.expBits (2 ^ g.expBits - 1) ++
      BitVec.ofNat g.fracBits (movedFraction f g x)) :=
    congrArg quieted (packFp_append g x.msb (Nat.sub_lt (Nat.two_pow_pos _) one_pos) (movedFraction_lt f g x))
  rw [hpack, getLsbD_quieted _ hk, BitVec.getLsbD_append, BitVec.getLsbD_append]
  congr 1
  by_cases hfrac : k < g.fracBits
  · rw [if_pos hfrac, if_pos hfrac, BitVec.getLsbD_ofNat, decide_eq_true hfrac, Bool.true_and]
  · by_cases hexp : k < g.expBits + g.fracBits
    · rw [if_neg hfrac, if_neg hfrac, if_pos hexp, if_pos (by omega), BitVec.getLsbD_ofNat, Nat.testBit_two_pow_sub_one,
        decide_eq_true (by omega), Bool.and_self]
    · obtain rfl : k = g.expBits + g.fracBits := by unfold FpFormat.width at hk; omega
      simp

/-- A NaN made longer: the fraction is padded at its low end. -/
theorem convertedNan_widen (x : BitVec fp32.width) : convertedNan fp32 fp64 x =
    BitVec.ofBool x.msb ++ (0x7FF : BitVec 11) ++ (x.extractLsb' 0 23 ||| 0x400000) ++ (0 : BitVec 29) := by
  have hones : ∀ j (h : j < 11), (0x7FF#11)[j] = true := by decide
  have htop : ∀ j (h : j < 23), (0x400000#23)[j] = decide (j = 22) := by decide
  have hmoved : movedFraction fp32 fp64 x = fracField x * 2 ^ 29 := rfl
  refine BitVec.eq_of_getLsbD_eq fun k hk => ?_
  rw [getLsbD_convertedNan _ _ _ hk, hmoved, Nat.testBit_mul_two_pow, testBit_fracField]
  simp only [BitVec.getLsbD_append, BitVec.getLsbD_or, BitVec.getLsbD_extractLsb']
  dsimp only [FpFormat.width] at hk ⊢
  obtain hlow | hfrac | hexp | rfl : k < 29 ∨ (29 ≤ k ∧ k < 52) ∨ (52 ≤ k ∧ k < 63) ∨ k = 63 := by omega
  · simp [show k < 52 by omega, hlow, show ¬ 29 ≤ k by omega, show k ≠ 51 by omega]
  · simp [hfrac, show ¬ k < 29 by omega, show k - 29 < 23 by omega, htop, show k - 29 = 22 ↔ k = 51 by omega]
  · simp [show ¬ k < 52 by omega, hexp, show ¬ k < 29 by omega, show ¬ k - 29 < 23 by omega, show k - 29 - 23 < 11 by omega, hones]
  · simp

/-- A NaN made shorter: the fraction is cut at its low end. -/
theorem convertedNan_narrow (x : BitVec fp64.width) : convertedNan fp64 fp32 x =
    BitVec.ofBool x.msb ++ (0xFF : BitVec 8) ++ (x.extractLsb' 29 23 ||| 0x400000) := by
  have hones : ∀ j (h : j < 8), (0xFF#8)[j] = true := by decide
  have htop : ∀ j (h : j < 23), (0x400000#23)[j] = decide (j = 22) := by decide
  have hmoved : movedFraction fp64 fp32 x = fracField x / 2 ^ 29 := rfl
  refine BitVec.eq_of_getLsbD_eq fun k hk => ?_
  rw [getLsbD_convertedNan _ _ _ hk, hmoved, Nat.testBit_div_two_pow, testBit_fracField]
  simp only [BitVec.getLsbD_append, BitVec.getLsbD_or, BitVec.getLsbD_extractLsb']
  dsimp only [FpFormat.width] at hk ⊢
  obtain hfrac | hexp | rfl : k < 23 ∨ (23 ≤ k ∧ k < 31) ∨ k = 31 := by omega
  · simp [hfrac, htop, show k + 29 < 52 by omega, add_comm 29 k]
  · simp [show ¬ k < 23 by omega, hexp, show k - 23 < 8 by omega, hones]
  · simp

/-! The statement about NaN operands. -/

/-- An operation of two operands that NaN operands decide gives the first signalling one made quiet, or else the first. -/
theorem nan_of_propagated_pair {f : FpFormat} {x y : BitVec f.width} {r : FpResult f.width}
    (h : ∀ p, propagated [x, y] = some p → r = p) :
    (isSNan x = true → r = ⟨quieted x, 0x10⟩) ∧ (isSNan x = false → isSNan y = true → r = ⟨quieted y, 0x10⟩) ∧
    (isNan x = true → isSNan x = false → isSNan y = false → r = ⟨x, 0⟩) ∧
    (isNan x = false → isNan y = true → isSNan y = false → r = ⟨y, 0⟩) := by
  refine ⟨fun hx => h _ (propagated_of_snan ?_), fun hx hy => h _ (propagated_of_snan ?_),
    fun hn hx hy => h _ (propagated_of_qnan ?_ ?_), fun hn hy hs => h _ (propagated_of_qnan ?_ ?_)⟩
  · simp [hx]
  · simp [hx, hy]
  · simp [hx, hy]
  · simp [hn]
  · simp [isSNan_of_not_isNan hn, hs]
  · simp [hn, hy]

/-- A NaN of one operand decides. -/
theorem nan_of_propagated_single {f : FpFormat} {x : BitVec f.width} {r : FpResult f.width}
    (h : ∀ p, propagated [x] = some p → r = p) :
    (isSNan x = true → r = ⟨quieted x, 0x10⟩) ∧ (isQNan x = true → r = ⟨x, 0⟩) := by
  refine ⟨fun hx => h _ (propagated_of_snan ?_), fun hx => h _ (propagated_of_qnan ?_ ?_)⟩
  · simp [hx]
  · simp [isSNan_of_isQNan hx]
  · simp [isNan_of_isQNan hx]

/-- Maxima and minima: a signalling NaN decides, and two quiet ones. -/
theorem fpMaxMin_of_propagated {f : FpFormat} {env : FpEnv} {wanted : FpRelation} {x y : BitVec f.width} {p : FpResult f.width}
    (hnan : (isSNan x || isSNan y || (isNan x && isNan y)) = true) (hp : propagated [x, y] = some p) :
    fpMaxMin f env wanted x y = p := by
  rw [fpMaxMin, if_pos hnan, hp, Option.getD_some]

/-- Where an operand is a NaN magnitudes are not asked for. -/
theorem fpMaxMinMag_of_nan {f : FpFormat} {env : FpEnv} {wanted : FpRelation} {x y : BitVec f.width}
    (h : isNan x = true ∨ isNan y = true) : fpMaxMinMag f env wanted x y = fpMaxMin f env wanted x y := by
  rw [fpMaxMinMag, if_pos]
  rcases h with h | h <;> simp [h]

theorem nan_of_fpMaxMin {f : FpFormat} {env : FpEnv} {wanted : FpRelation} {x y : BitVec f.width} {r : FpResult f.width}
    (h : isNan x = true ∨ isNan y = true → r = fpMaxMin f env wanted x y) :
    (isSNan x = true → r = ⟨quieted x, 0x10⟩) ∧ (isSNan x = false → isSNan y = true → r = ⟨quieted y, 0x10⟩) ∧
    (isQNan x = true → isQNan y = true → r = ⟨x, 0⟩) ∧ (isQNan x = true → isNan y = false → r = ⟨y, 0⟩) ∧
    (isNan x = false → isQNan y = true → r = ⟨x, 0⟩) := by
  refine ⟨fun hx => ?sx, fun hx hy => ?sy, fun hx hy => ?both, fun hx hy => ?number, fun hx hy => ?number'⟩
  case sx =>
    exact (h (.inl (isNan_of_isSNan hx))).trans (fpMaxMin_of_propagated (by simp [hx]) (propagated_of_snan (by simp [hx])))
  case sy =>
    exact (h (.inr (isNan_of_isSNan hy))).trans (fpMaxMin_of_propagated (by simp [hy]) (propagated_of_snan (by simp [hx, hy])))
  case both =>
    have hnx := isNan_of_isQNan hx
    exact (h (.inl hnx)).trans (fpMaxMin_of_propagated (by simp [hnx, isNan_of_isQNan hy])
      (propagated_of_qnan (by simp [isSNan_of_isQNan hx, isSNan_of_isQNan hy]) (by simp [hnx])))
  case number =>
    have hnx := isNan_of_isQNan hx
    rw [h (.inl hnx)]
    simp [fpMaxMin, isSNan_of_isQNan hx, isSNan_of_not_isNan hy, hnx, hy]
  case number' =>
    have hny := isNan_of_isQNan hy
    rw [h (.inr hny)]
    simp [fpMaxMin, isSNan_of_isQNan hy, isSNan_of_not_isNan hx, hny, hx]

/-- A fused operation: the addend before the factors. -/
theorem FusedNan.cases {f : FpFormat} {x y z : BitVec f.width} {r : FpResult f.width} (h : FusedNan x y z r) :
    (isSNan z = true → r = ⟨quieted z, 0x10⟩) ∧
    (isSNan z = false → isSNan x = true → r = ⟨quieted x, 0x10⟩) ∧
    (isSNan z = false → isSNan x = false → isSNan y = true → r = ⟨quieted y, 0x10⟩) ∧
    (isSNan z = false → isSNan x = false → isSNan y = false →
      (isQNan z = true → zeroTimesInfinity x y → r.bits = z ∧ (r.exc = 0 ∨ r.exc = 0x10)) ∧
      (isQNan z = true → ¬ zeroTimesInfinity x y → r = ⟨z, 0⟩) ∧
      (isNan z = false → isQNan x = true → r = ⟨x, 0⟩) ∧
      (isNan z = false → isNan x = false → isQNan y = true → r = ⟨y, 0⟩)) := by
  have hquiet (hz : isSNan z = false) (hx : isSNan x = false) (hy : isSNan y = false) : [z, x, y].find? isSNan = none := by
    simp [hz, hx, hy]
  refine ⟨fun hz => ?z, fun hz hx => ?x, fun hz hx hy => ?y, fun hz hx hy => ⟨fun hn hzero => ?qzero, fun hn hzero => ?qz,
    fun hn hqx => ?qx, fun hn hnx hqy => ?qy⟩⟩
  case z =>
    obtain ⟨hbits, hexc⟩ := h _ (propagated_of_snan (v := z) (by simp [hz]))
    have hv : r.exc = 0x10 := hexc.elim id fun hexc => hexc.2.trans BitVec.or_self
    cases r
    simp_all
  case x =>
    exact h.eq (not_zeroTimesInfinity_of_nan (.inl (isNan_of_isSNan hx))) (propagated_of_snan (by simp [hz, hx]))
  case y =>
    exact h.eq (not_zeroTimesInfinity_of_nan (.inr (isNan_of_isSNan hy))) (propagated_of_snan (by simp [hz, hx, hy]))
  case qzero =>
    obtain ⟨hbits, hexc | ⟨_, hexc⟩⟩ := h _ (propagated_of_qnan (v := z) (hquiet hz hx hy) (by simp [isNan_of_isQNan hn]))
    · exact ⟨hbits, .inl hexc⟩
    · exact ⟨hbits, .inr (hexc.trans (BitVec.zero_or ..))⟩
  case qz => exact h.eq hzero (propagated_of_qnan (hquiet hz hx hy) (by simp [isNan_of_isQNan hn]))
  case qx =>
    have hnan := isNan_of_isQNan hqx
    exact h.eq (not_zeroTimesInfinity_of_nan (.inl hnan)) (propagated_of_qnan (hquiet hz hx hy) (by simp [hn, hnan]))
  case qy =>
    have hnan := isNan_of_isQNan hqy
    exact h.eq (not_zeroTimesInfinity_of_nan (.inr hnan)) (propagated_of_qnan (hquiet hz hx hy) (by simp [hn, hnx, hnan]))

theorem fpConvert_of_nan {f g : FpFormat} {env : FpEnv} {x : BitVec f.width} (h : isNan x = true) :
    fpConvert f g env x = ⟨convertedNan f g x, if isSNan x then excV else 0⟩ := by
  rw [fpConvert, (view_eq_nan_iff x).mpr h]

/-- Settles O53: NaN operands decide each operation as `propagated` says, and a conversion between formats keeps the NaN's top
fraction bits. -/
theorem nanPropagation : Obligations.NanPropagation := by
  refine ⟨fun f hf env x y z => ?_, fun env x h => ?widen, fun env x h => ?narrow⟩
  case widen => rw [fpConvert_of_nan h, convertedNan_widen]
  case narrow => rw [fpConvert_of_nan h, convertedNan_narrow]
  have hfrac : 0 < f.fracBits := by rcases hf with rfl | rfl <;> decide
  refine ⟨isQNan_quieted hfrac, fun op hop => nan_of_propagated_pair fun p hp => ?pair, fun wanted r hr => nan_of_fpMaxMin (env := env) (wanted := wanted) fun h => ?maxMin,
    fun r hr => FusedNan.cases ?fused, fun r hr => nan_of_propagated_single fun p hp => ?single⟩
  case pair =>
    fin_cases hop
    exacts [fpAdd_of_propagated hp, fpSub_of_propagated hp, fpMul_of_propagated hp, fpDiv_of_propagated hp]
  case maxMin =>
    fin_cases hr
    exacts [rfl, fpMaxMinMag_of_nan h]
  case fused =>
    fin_cases hr
    exacts [fusedNan_fpFma env x y z, fusedNan_fpFms env x y z, (fusedNan_fpFma env x y z).negatedResult hfrac,
      (fusedNan_fpFms env x y z).negatedResult hfrac]
  case single =>
    fin_cases hr
    exacts [fpSqrt_of_propagated hp, fpRecip_of_propagated hf hp, fpRsqrtOnce_of_propagated hp, fpRsqrtTwice_of_propagated hf hp]


/-! Maxima and minima of operands that are no NaN (R391 to R398). -/

theorem fpMaxMin_of_not_nan {f : FpFormat} {x y : BitVec f.width} (hx : isNan x = false) (hy : isNan y = false) (env : FpEnv)
    (wanted : FpRelation) : fpMaxMin f env wanted x y = ⟨pickNumber env wanted x y, 0⟩ := by
  simp [fpMaxMin, isSNan_of_not_isNan, hx, hy]

/-- Of operands that compare unequal the first where it relates to the second as wanted. -/
theorem fpMaxMin_of_relation {f : FpFormat} {x y : BitVec f.width} (hx : isNan x = false) (hy : isNan y = false) {rel : FpRelation}
    (hrel : relation x y = rel) (hne : rel ≠ .eq) (env : FpEnv) (wanted : FpRelation) :
    fpMaxMin f env wanted x y = ⟨if rel = wanted then x else y, 0⟩ := by
  rw [fpMaxMin_of_not_nan hx hy, pickNumber, hrel, if_neg hne]

theorem fpMaxMinMag_of_relation {f : FpFormat} {x y : BitVec f.width} (hx : isNan x = false) (hy : isNan y = false)
    {rel : FpRelation} (hrel : relation (magnitudeOf x) (magnitudeOf y) = rel) (hne : rel ≠ .eq) (env : FpEnv)
    (wanted : FpRelation) : fpMaxMinMag f env wanted x y = ⟨if rel = wanted then x else y, 0⟩ := by
  rw [fpMaxMinMag, hrel, if_neg (by simp [hx, hy, hne])]
  split <;> rfl

theorem fpMaxMinMag_of_equal {f : FpFormat} {x y : BitVec f.width} (h : relation (magnitudeOf x) (magnitudeOf y) = .eq)
    (env : FpEnv) (wanted : FpRelation) : fpMaxMinMag f env wanted x y = fpMaxMin f env wanted x y := by
  rw [fpMaxMinMag, if_pos (by simp [h])]

/-- The magnitude of a datum stands for the magnitude of its number. -/
theorem standsFor_magnitudeOf {f : FpFormat} {x : BitVec f.width} {a : ℝ} (h : standsFor x a) :
    standsFor (magnitudeOf x) |a| := by
  obtain ⟨neg, m, e, hview, rfl⟩ := h
  refine ⟨false, m, e, by rw [view_magnitudeOf, hview, FpView.withSign], ?_⟩
  cases neg <;> simp [abs_mul, abs_of_pos (zpow_pos (two_pos (α := ℝ)) e)]

/-- Settles O50: the operand picked is told by the relation of the operands or of their magnitudes, and numbers relate as reals. -/
theorem maxMinSelection : Obligations.MaxMinSelection := by
  intro f hf env x y hx hy
  refine ⟨fun h => ?gt, fun h => ?lt, fun h wanted => ?eq, fun h => ?magGt, fun h => ?magLt, fun h => fpMaxMinMag_of_equal h env,
    fun a b ha hb => ?numbers⟩
  case gt | lt => exact ⟨fpMaxMin_of_relation hx hy h (by decide) env .gt, fpMaxMin_of_relation hx hy h (by decide) env .lt⟩
  case eq =>
    rw [fpMaxMin_of_not_nan hx hy, pickNumber, if_pos h]
    cases env.choice
    · exact .inr rfl
    · exact .inl rfl
  case magGt | magLt =>
    exact ⟨fpMaxMinMag_of_relation hx hy h (by decide) env .gt, fpMaxMinMag_of_relation hx hy h (by decide) env .lt⟩
  case numbers =>
    obtain ⟨hlt, _, hgt⟩ := relation_of_numbers ha hb
    obtain ⟨hmagLt, hmagEq, hmagGt⟩ := relation_of_numbers (standsFor_magnitudeOf ha) (standsFor_magnitudeOf hb)
    have hless (h : a < b) (wanted : FpRelation) := fpMaxMin_of_relation hx hy (hlt.mpr h) (by decide) env wanted
    have hgreater (h : b < a) (wanted : FpRelation) := fpMaxMin_of_relation hx hy (hgt.mpr h) (by decide) env wanted
    refine ⟨fun h => ⟨hless h .gt, hless h .lt⟩, fun h => ⟨hgreater h .gt, hgreater h .lt⟩, fun h => ?_, fun h => ?_,
      fun habs h => ?_, fun habs h => ?_⟩
    · have hmag := fpMaxMinMag_of_relation hx hy (hmagLt.mpr h) (by decide) env
      exact ⟨hmag .gt, hmag .lt⟩
    · have hmag := fpMaxMinMag_of_relation hx hy (hmagGt.mpr h) (by decide) env
      exact ⟨hmag .gt, hmag .lt⟩
    · have hmag := fpMaxMinMag_of_equal (hmagEq.mpr habs) env
      exact ⟨(hmag .gt).trans (hless h .gt), (hmag .lt).trans (hless h .lt)⟩
    · have hmag := fpMaxMinMag_of_equal (hmagEq.mpr habs) env
      exact ⟨(hmag .gt).trans (hgreater h .gt), (hmag .lt).trans (hgreater h .lt)⟩

end Sys2Proof.Machine

/-! SUPPORT. What a rounding delivers is the correctly rounded number, of a value known exactly or up to a last bit that says what
was cut off (R364, R367 to R370). -/

namespace Sys2Proof.Machine

/-! Values that round alike. -/

/-- Two numbers compare alike with every half of an integer: no mode tells them apart. -/
def SameAtHalves (x y : ℝ) : Prop := ∀ z : ℤ, (x < z / 2 ↔ y < z / 2) ∧ (z / 2 < x ↔ z / 2 < y)

theorem SameAtHalves.eq_iff {x y : ℝ} (h : SameAtHalves x y) (z : ℤ) : x = z / 2 ↔ y = z / 2 := by
  obtain ⟨hlt, hgt⟩ := h z
  rw [le_antisymm_iff, le_antisymm_iff, ← not_lt, ← not_lt, ← not_lt, ← not_lt, hlt, hgt]

theorem SameAtHalves.lt_int {x y : ℝ} (h : SameAtHalves x y) (z : ℤ) : x < z ↔ y < z := by
  have hz := (h (2 * z)).1
  push_cast at hz
  rwa [mul_div_cancel_left₀ _ two_ne_zero] at hz

theorem SameAtHalves.int_lt {x y : ℝ} (h : SameAtHalves x y) (z : ℤ) : z < x ↔ z < y := by
  have hz := (h (2 * z)).2
  push_cast at hz
  rwa [mul_div_cancel_left₀ _ two_ne_zero] at hz

theorem SameAtHalves.int_le {x y : ℝ} (h : SameAtHalves x y) (z : ℤ) : z ≤ x ↔ z ≤ y := by
  rw [← not_lt, ← not_lt, h.lt_int]

theorem SameAtHalves.le_int {x y : ℝ} (h : SameAtHalves x y) (z : ℤ) : x ≤ z ↔ y ≤ z := by
  rw [← not_lt, ← not_lt, h.int_lt]

/-- To nearest, in terms of the halves around the integer. -/
theorem roundsInteger_nearest_iff (neg : Bool) (x : ℝ) (n : Nat) : roundsInteger .nearestEven neg x n ↔
    ((2 * n - 1 : ℤ) / 2 < x ∧ x < (2 * n + 1 : ℤ) / 2) ∨
      ((x = (2 * n - 1 : ℤ) / 2 ∨ x = (2 * n + 1 : ℤ) / 2) ∧ n % 2 = 0) := by
  rw [roundsInteger, abs_lt, abs_eq (by norm_num)]
  push_cast
  refine or_congr (and_congr ?_ ?_) (and_congr_left' (or_comm.trans (or_congr ?_ ?_)))
  all_goals constructor <;> intro h <;> linarith

theorem SameAtHalves.roundsInteger {x y : ℝ} (h : SameAtHalves x y) {rm : RoundingMode} {neg : Bool} {n : Nat}
    (hx : roundsInteger rm neg x n) : roundsInteger rm neg y n := by
  have hdown (hx : (n : ℝ) ≤ x ∧ x < n + 1) : (n : ℝ) ≤ y ∧ y < n + 1 := by
    have hle := h.int_le n
    have hlt := h.lt_int (n + 1)
    push_cast at hle hlt
    exact ⟨hle.mp hx.1, hlt.mp hx.2⟩
  have hup (hx : (n : ℝ) - 1 < x ∧ x ≤ n) : (n : ℝ) - 1 < y ∧ y ≤ n := by
    have hlt := h.int_lt (n - 1)
    have hle := h.le_int n
    push_cast at hle hlt
    exact ⟨hlt.mp hx.1, hle.mp hx.2⟩
  cases rm with
  | nearestEven =>
    rw [roundsInteger_nearest_iff] at hx ⊢
    rwa [← (h _).2, ← (h _).1, ← h.eq_iff, ← h.eq_iff]
  | towardZero => exact hdown hx
  | towardPositive =>
    cases neg
    · exact hup hx
    · exact hdown hx
  | towardNegative =>
    cases neg
    · exact hdown hx
    · exact hup hx

/-- `m` stands for `y` in rounding to a format: exactly, or with bits to spare and every even integer on the same side. -/
def Represents (f : FpFormat) (m : Nat) (y : ℝ) : Prop :=
  y = m ∨ (2 ^ (f.fracBits + 2) ≤ m ∧ ∀ z : ℤ, (y < 2 * z ↔ (m : ℝ) < 2 * z) ∧ (2 * z < y ↔ 2 * z < (m : ℝ)))

/-- In units of the result's last place, or of a greater one, what stands for a value rounds as it does. -/
theorem Represents.sameAtHalves {f : FpFormat} {m : Nat} {e q : Int} {x : ℝ} (h : Represents f m (x / 2 ^ e))
    (hq : unboundedUnit f m e ≤ q) : SameAtHalves (m * 2 ^ e / 2 ^ q) (x / 2 ^ q) := by
  have he : (0 : ℝ) < 2 ^ e := zpow_pos two_pos e
  have hx : x = x / 2 ^ e * 2 ^ e := (div_mul_cancel₀ x he.ne').symm
  obtain heq | ⟨hbits, heven⟩ := h
  · rw [hx, heq]
    exact fun z => ⟨Iff.rfl, Iff.rfl⟩
  · intro z
    have hm : m ≠ 0 := (lt_of_lt_of_le (by positivity) hbits).ne'
    have hlog : f.fracBits + 2 ≤ m.log2 := (Nat.le_log2 hm).mpr hbits
    rw [unboundedUnit_eq] at hq
    obtain ⟨j, rfl⟩ : ∃ j : ℕ, q = e + 2 + j := ⟨(q - e - 2).toNat, by omega⟩
    have hhalf : (z : ℝ) / 2 * 2 ^ (e + 2 + j : ℤ) = 2 * (z * 2 ^ j : ℤ) * 2 ^ e := by
      rw [zpow_add₀ two_ne_zero, zpow_add₀ two_ne_zero, zpow_natCast]
      push_cast
      ring
    obtain ⟨hlt, hgt⟩ := heven (z * 2 ^ j)
    have hu : (0 : ℝ) < 2 ^ (e + 2 + j : ℤ) := zpow_pos two_pos _
    rw [div_lt_iff₀ hu, div_lt_iff₀ hu, lt_div_iff₀ hu, lt_div_iff₀ hu, hhalf, mul_lt_mul_iff_left₀ he,
      mul_lt_mul_iff_left₀ he, ← div_lt_iff₀ he, ← lt_div_iff₀ he]
    exact ⟨hlt.symm, hgt.symm⟩

/-! The rounded value. -/

section

variable {f : FpFormat} {m : Nat} {e : Int} {x : ℝ}

/-- A value lies between the powers of two around what stands for it. -/
theorem Represents.bounds (h : Represents f m (x / 2 ^ e)) (hm : 0 < m) :
    2 ^ (unboundedUnit f m e + f.fracBits) ≤ x ∧ x < 2 ^ (unboundedUnit f m e + f.fracBits + 1) := by
  have hu : (0 : ℝ) < 2 ^ unboundedUnit f m e := zpow_pos two_pos _
  have hsame := h.sameAtHalves le_rfl
  have hlow := (hsame.int_le (2 ^ f.fracBits)).mp (by exact_mod_cast two_pow_le_of_unit_eq hm rfl)
  have hhigh := (hsame.lt_int (2 ^ (f.fracBits + 1))).mp (by exact_mod_cast lt_two_pow_of_unit_le le_rfl)
  push_cast at hlow hhigh
  rw [le_div_iff₀ hu] at hlow
  rw [div_lt_iff₀ hu] at hhigh
  rw [add_assoc, zpow_add₀ two_ne_zero, zpow_add₀ two_ne_zero, ← Nat.cast_succ, zpow_natCast, zpow_natCast,
    mul_comm, mul_comm (2 ^ unboundedUnit f m e)]
  exact ⟨hlow, hhigh⟩

/-- It is rounded to the same integer. -/
theorem Represents.roundsInteger (h : Represents f m (x / 2 ^ e)) {q : Int} (hq : unboundedUnit f m e ≤ q) (rm : RoundingMode)
    (neg : Bool) : roundsInteger rm neg (x / 2 ^ q) (roundUnit rm neg m e q) :=
  (h.sameAtHalves hq).roundsInteger (roundsInteger_roundUnit rm neg m e q)

/-- And as exactly. -/
theorem Represents.inexactAt_iff (h : Represents f m (x / 2 ^ e)) {q : Int} (hq : unboundedUnit f m e ≤ q) (rm : RoundingMode)
    (neg : Bool) : inexactAt m e q = true ↔ (roundUnit rm neg m e q : ℝ) * 2 ^ q ≠ x := by
  have hu : (2 : ℝ) ^ q ≠ 0 := zpow_ne_zero _ two_ne_zero
  have heq := (h.sameAtHalves hq).eq_iff (2 * roundUnit rm neg m e q)
  push_cast at heq
  rw [mul_div_cancel_left₀ _ two_ne_zero, div_eq_iff hu, div_eq_iff hu] at heq
  rw [← Bool.not_eq_false, inexactAt_eq_false_iff rm neg, not_iff_not, eq_comm, heq, eq_comm]

end

/-- The exponent of the rounded value tells which powers of two it reaches. -/
theorem two_zpow_le_rounded_iff (f : FpFormat) (rm : RoundingMode) (neg : Bool) {m : Nat} (hm : 0 < m) (e t : Int) :
    (2 : ℝ) ^ t ≤ roundUnit rm neg m e (unboundedUnit f m e) * 2 ^ unboundedUnit f m e ↔
      t ≤ unboundedExponent f rm neg m e := by
  have hlow := two_pow_le_of_roundsInteger (roundsInteger_roundUnit rm neg m e _) (two_pow_le_of_unit_eq (f := f) hm rfl)
  have hhigh := roundUnit_le (f := f) (m := m) (e := e) le_rfl rm neg
  rw [unboundedExponent_eq]
  generalize roundUnit rm neg m e (unboundedUnit f m e) = n at hlow hhigh ⊢
  generalize unboundedUnit f m e = u
  have hpow (b : ℕ) : ((2 ^ b : ℕ) : ℝ) * 2 ^ u = 2 ^ (u + b) := by
    rw [zpow_add₀ two_ne_zero, zpow_natCast, mul_comm]
    push_cast
    rfl
  by_cases hcarry : n = 2 ^ (f.fracBits + 1)
  · rw [if_pos hcarry, hcarry, hpow, zpow_le_zpow_iff_right₀ one_lt_two]
    push_cast
    rw [add_assoc]
  · rw [if_neg hcarry, add_zero]
    have hle : (2 : ℝ) ^ (u + f.fracBits) ≤ n * 2 ^ u := by
      rw [← hpow]
      gcongr
    have hlt : (n : ℝ) * 2 ^ u < 2 ^ (u + f.fracBits + 1) := by
      rw [add_assoc, ← Nat.cast_succ, ← hpow]
      gcongr
      omega
    constructor
    · intro h
      have := (zpow_lt_zpow_iff_right₀ (one_lt_two (α := ℝ))).mp (h.trans_lt hlt)
      omega
    · exact fun h => (zpow_le_zpow_right₀ one_le_two h).trans hle

/-- An overflow gives the greatest finite number or the infinity, by the mode and the sign (R367). -/
theorem view_overflowBits {f : FpFormat} (hf : f = fp32 ∨ f = fp64) (rm : RoundingMode) (neg : Bool) :
    (overflowStaysFinite rm neg →
      view (overflowBits f rm neg) = .fin neg (2 ^ (f.fracBits + 1) - 1) (f.emax - f.fracBits)) ∧
    (¬ overflowStaysFinite rm neg → view (overflowBits f rm neg) = .inf neg) := by
  have hmax : view (fpMaxFinite f neg) = .fin neg (2 ^ (f.fracBits + 1) - 1) (f.emax - f.fracBits) := by
    rcases hf with rfl | rfl <;> cases neg <;> decide
  have hinf := view_fpInf f neg
  cases rm <;> cases neg <;> simp [overflowStaysFinite, overflowBits, hmax, hinf]

theorem roundNonzero_of_overflow {f : FpFormat} {env : FpEnv} {neg : Bool} {m : Nat} {e : Int}
    (h : f.emax < unboundedExponent f env.rm neg m e) :
    roundNonzero f env neg m e = ⟨overflowBits f env.rm neg, 0x05⟩ := if_pos h

/-- The exceptions of a rounding that does not overflow (R368 to R370). -/
theorem exc_roundNonzero {f : FpFormat} {env : FpEnv} {neg : Bool} {m : Nat} {e : Int}
    (h : ¬ f.emax < unboundedExponent f env.rm neg m e) :
    (roundNonzero f env neg m e).exc.extractLsb' 2 3 = 0 ∧
    (roundNonzero f env neg m e).exc.getLsbD 0 = inexactAt m e (resultUnit f m e) ∧
    ((roundNonzero f env neg m e).exc.getLsbD 1 = true ↔ unboundedExponent f env.rm neg m e < f.emin ∧
      (inexactAt m e (resultUnit f m e) = true ∨ env.trapU = true)) := by
  have hexc : (roundNonzero f env neg m e).exc =
      (if decide (unboundedExponent f env.rm neg m e < f.emin) && (inexactAt m e (resultUnit f m e) || env.trapU)
        then excU else 0) ||| (if inexactAt m e (resultUnit f m e) then excI else 0) := by
    rw [roundNonzero, if_neg h]
    rfl
  have hu : (decide (unboundedExponent f env.rm neg m e < f.emin) && (inexactAt m e (resultUnit f m e) || env.trapU)) = true ↔
      unboundedExponent f env.rm neg m e < f.emin ∧ (inexactAt m e (resultUnit f m e) = true ∨ env.trapU = true) := by simp
  rw [hexc, ← hu]
  generalize (decide (unboundedExponent f env.rm neg m e < f.emin) && (inexactAt m e (resultUnit f m e) || env.trapU)) = u
  cases u <;> cases inexactAt m e (resultUnit f m e) <;> decide

/-- The rounding of what stands for a value is that value correctly rounded. -/
theorem correctlyRounded_roundNonzero {f : FpFormat} (hf : f = fp32 ∨ f = fp64) (env : FpEnv) {neg : Bool} {m : Nat} {e : Int}
    {x : ℝ} (hm : 0 < m) (hneg : neg = true ↔ x < 0) (hx : Represents f m (|x| / 2 ^ e)) :
    correctlyRounded f env x (roundNonzero f env neg m e) := by
  obtain ⟨hlow, hhigh⟩ := hx.bounds hm
  have hunit : unboundedUnit f m e ≤ resultUnit f m e := le_max_left _ _
  have hreach := two_zpow_le_rounded_iff f env.rm neg hm e
  refine ⟨neg, unboundedUnit f m e + f.fracBits, unboundedUnit f m e, resultUnit f m e, roundUnit env.rm neg m e (unboundedUnit f m e),
    roundUnit env.rm neg m e (resultUnit f m e), hneg, hlow, hhigh, by ring, rfl, hx.roundsInteger le_rfl env.rm neg,
    hx.roundsInteger hunit env.rm neg, fun hover => ?overflow, fun hfits => ?fits⟩
  case overflow =>
    rw [hreach] at hover
    rw [roundNonzero_of_overflow (by omega)]
    exact ⟨rfl, view_overflowBits hf env.rm neg⟩
  case fits =>
    rw [← not_le, hreach] at hfits
    obtain ⟨hnone, hinexact, hunderflow⟩ := exc_roundNonzero (f := f) (env := env) (neg := neg) (m := m) (e := e) (by omega)
    have hround : roundFp f env neg m e = roundNonzero f env neg m e := if_neg hm.ne'
    have hno : (roundFp f env neg m e).exc.getLsbD 2 = false := by
      have hbit := congrArg (·.getLsbD 0) hnone
      rw [hround]
      simpa [BitVec.getLsbD_extractLsb'] using hbit
    obtain ⟨k, d, hview, hvalue⟩ := view_roundFp (by rcases hf with rfl | rfl <;> decide) hm hno
    rw [hround] at hview
    rw [← not_le, hreach, not_le, hinexact, hunderflow, hx.inexactAt_iff hunit env.rm neg]
    exact ⟨hnone, ⟨k, d, hview, hvalue⟩, Iff.rfl, Iff.rfl⟩

end Sys2Proof.Machine

/-! SUPPORT. The values of sums and fused operations (R375 to R390). -/

namespace Sys2Proof.Machine

/-! Numbers by sign and magnitude. -/

theorem signed_facts (neg : Bool) {p : ℝ} (hp : 0 < p) :
    (neg = true ↔ (if neg then -1 else 1) * p < 0) ∧ |(if neg then -1 else 1) * p| = p := by
  cases neg
  · simp [hp.le, abs_of_pos hp]
  · simp [hp, abs_of_pos hp]

theorem sign_xor (n k : Bool) : (if (n ^^ k) then -1 else 1 : ℝ) = (if n then -1 else 1) * (if k then -1 else 1) := by
  cases n <;> cases k <;> simp

theorem number_eq_zero_iff (neg : Bool) (m : Nat) (e : Int) : (if neg then -1 else 1 : ℝ) * m * 2 ^ e = 0 ↔ m = 0 := by
  have hpow : (2 : ℝ) ^ e ≠ 0 := zpow_ne_zero _ two_ne_zero
  cases neg <;> simp [hpow]

theorem product_of_numbers (n1 n2 : Bool) (m1 m2 : Nat) (e1 e2 : Int) :
    ((if n1 then -1 else 1) * m1 * 2 ^ e1) * ((if n2 then -1 else 1) * m2 * 2 ^ e2) =
      (if (n1 ^^ n2) then -1 else 1 : ℝ) * (m1 * m2 : ℕ) * 2 ^ (e1 + e2) := by
  rw [sign_xor, zpow_add₀ two_ne_zero]
  push_cast
  ring

/-- A rounding of the sign and of what stands for the magnitude. -/
theorem correctlyRounded_signed {f : FpFormat} (hf : f = fp32 ∨ f = fp64) (env : FpEnv) (neg : Bool) {m : Nat} {e : Int}
    {p x : ℝ} (hm : 0 < m) (hp : 0 < p) (hx : x = (if neg then -1 else 1) * p) (hrep : Represents f m (p / 2 ^ e)) :
    correctlyRounded f env x (roundNonzero f env neg m e) := by
  obtain ⟨hneg, habs⟩ := signed_facts neg hp
  rw [← hx] at hneg habs
  exact correctlyRounded_roundNonzero hf env hm hneg (by rwa [habs])

/-- The rounding of a nonzero number given exactly. -/
theorem correctlyRounded_exact {f : FpFormat} (hf : f = fp32 ∨ f = fp64) (env : FpEnv) (neg : Bool) {m : Nat} {e : Int} {x : ℝ}
    (hm : 0 < m) (hx : x = (if neg then -1 else 1) * m * 2 ^ e) : correctlyRounded f env x (roundNonzero f env neg m e) := by
  have hpow : (0 : ℝ) < 2 ^ e := zpow_pos two_pos e
  refine correctlyRounded_signed hf env neg hm (p := m * 2 ^ e) (by positivity) (by rw [hx, mul_assoc]) (.inl ?_)
  rw [mul_div_cancel_right₀ _ hpow.ne']

theorem expBits_pos {f : FpFormat} (hf : f = fp32 ∨ f = fp64) : 0 < f.expBits := by rcases hf with rfl | rfl <;> decide

theorem exactZero_fpZero {f : FpFormat} (hf : f = fp32 ∨ f = fp64) (neg : Bool) : exactZero ⟨fpZero f neg, 0⟩ neg :=
  ⟨view_fpZero (expBits_pos hf) neg, rfl⟩

theorem infinite_fpInf (f : FpFormat) (neg : Bool) (e : BitVec 5) : infinite ⟨fpInf f neg, e⟩ neg e := ⟨view_fpInf f neg, rfl⟩

theorem invalid_invalidResult (f : FpFormat) : invalid (invalidResult f) := rfl

/-- The rounding of an exact number, zero included. -/
theorem roundFp_value {f : FpFormat} (hf : f = fp32 ∨ f = fp64) (env : FpEnv) (neg : Bool) {m : Nat} {e : Int} {x : ℝ}
    (hx : x = (if neg then -1 else 1) * m * 2 ^ e) :
    (x ≠ 0 → correctlyRounded f env x (roundFp f env neg m e)) ∧ (x = 0 → exactZero (roundFp f env neg m e) neg) := by
  have hzero : x = 0 ↔ m = 0 := by rw [hx, number_eq_zero_iff]
  rw [hzero, roundFp]
  refine ⟨fun hm => ?_, fun hm => ?_⟩
  · rw [Ne, hzero] at hm
    rw [if_neg hm]
    exact correctlyRounded_exact hf env neg (Nat.pos_of_ne_zero hm) hx
  · rw [if_pos hm]
    exact exactZero_fpZero hf neg

/-- The sum of two numbers in a common unit, rounded once; a zero sum keeps a sign both have. -/
theorem sumFinite_value {f : FpFormat} (hf : f = fp32 ∨ f = fp64) (env : FpEnv) {n1 n2 : Bool} {m1 m2 : Nat} {e1 e2 : Int} {a b : ℝ}
    (ha : a = (if n1 then -1 else 1) * m1 * 2 ^ e1) (hb : b = (if n2 then -1 else 1) * m2 * 2 ^ e2) :
    (a + b ≠ 0 → correctlyRounded f env (a + b) (sumFinite f env n1 m1 e1 n2 m2 e2)) ∧
    (a + b = 0 → exactZero (sumFinite f env n1 m1 e1 n2 m2 e2) (if n1 = n2 then n1 else decide (env.rm = .towardNegative))) := by
  have hpow : (0 : ℝ) < 2 ^ min e1 e2 := zpow_pos two_pos _
  have hsum : a + b = ((scaled n1 m1 e1 (min e1 e2) + scaled n2 m2 e2 (min e1 e2) : ℤ) : ℝ) * 2 ^ min e1 e2 := by
    rw [Int.cast_add, add_mul, scaled_mul_zpow (min_le_left _ _), scaled_mul_zpow (min_le_right _ _), ha, hb]
  rw [hsum, sumFinite]
  generalize scaled n1 m1 e1 (min e1 e2) + scaled n2 m2 e2 (min e1 e2) = total
  refine ⟨fun hne => ?_, fun heq => ?_⟩
  · have htotal : total ≠ 0 := by rintro rfl; simp at hne
    rw [if_neg htotal]
    refine correctlyRounded_exact hf env _ (Int.natAbs_pos.mpr htotal) ?_
    rw [Nat.cast_natAbs]
    obtain hneg | hpos := lt_or_gt_of_ne htotal
    · simp [hneg, abs_of_neg hneg]
    · simp [hpos.not_gt, abs_of_pos hpos]
  · have htotal : total = 0 := by simpa [hpow.ne'] using heq
    rw [if_pos htotal]
    exact exactZero_fpZero hf _

/-! Negated addends (R377, R385). -/

theorem view_negatedNumber_fin {f : FpFormat} {x : BitVec f.width} {neg : Bool} {m : Nat} {e : Int} (h : view x = .fin neg m e) :
    view (negatedNumber x) = .fin (!neg) m e := by
  rw [negatedNumber_of_not_nan (isNan_eq_false_of_view_fin h), view_negated, h, msb_of_view_fin h, FpView.withSign]

theorem view_negatedNumber_inf {f : FpFormat} {x : BitVec f.width} {neg : Bool} (h : view x = .inf neg) :
    view (negatedNumber x) = .inf (!neg) := by
  rw [negatedNumber_of_not_nan (isNan_eq_false_of_view_inf h), view_negated, h, msb_of_view_inf h, FpView.withSign]

theorem isFinite_iff {f : FpFormat} (x : BitVec f.width) : isFinite x ↔ ∃ neg m e, view x = .fin neg m e :=
  ⟨fun ⟨_, neg, m, e, hview, _⟩ => ⟨neg, m, e, hview⟩, fun ⟨neg, m, e, hview⟩ => ⟨_, neg, m, e, hview, rfl⟩⟩

theorem negated_number (neg : Bool) (m : Nat) (e : Int) :
    -((if neg then -1 else 1 : ℝ) * m * 2 ^ e) = (if !neg then -1 else 1) * m * 2 ^ e := by
  cases neg <;> simp

/-! Sums by the views of their operands (R375). -/

section

variable {f : FpFormat} {env : FpEnv} {x y z : BitVec f.width}

theorem propagated_pair (hx : isNan x = false) (hy : isNan y = false) : propagated [x, y] = none :=
  propagated_of_no_nan (by simp [hx, hy])

theorem fpAdd_fin_fin {n1 n2 : Bool} {m1 m2 : Nat} {e1 e2 : Int} (hx : view x = .fin n1 m1 e1) (hy : view y = .fin n2 m2 e2) :
    fpAdd f env x y = sumFinite f env n1 m1 e1 n2 m2 e2 := by
  rw [fpAdd, propagated_pair (isNan_eq_false_of_view_fin hx) (isNan_eq_false_of_view_fin hy), hx, hy]

theorem fpAdd_inf_fin {a n : Bool} {m : Nat} {e : Int} (hx : view x = .inf a) (hy : view y = .fin n m e) :
    fpAdd f env x y = ⟨fpInf f a, 0⟩ := by
  rw [fpAdd, propagated_pair (isNan_eq_false_of_view_inf hx) (isNan_eq_false_of_view_fin hy), hx, hy]

theorem fpAdd_fin_inf {b n : Bool} {m : Nat} {e : Int} (hx : view x = .fin n m e) (hy : view y = .inf b) :
    fpAdd f env x y = ⟨fpInf f b, 0⟩ := by
  rw [fpAdd, propagated_pair (isNan_eq_false_of_view_fin hx) (isNan_eq_false_of_view_inf hy), hx, hy]

theorem fpAdd_inf_inf {a b : Bool} (hx : view x = .inf a) (hy : view y = .inf b) :
    fpAdd f env x y = if a = b then ⟨fpInf f a, 0⟩ else invalidResult f := by
  rw [fpAdd, propagated_pair (isNan_eq_false_of_view_inf hx) (isNan_eq_false_of_view_inf hy), hx, hy]

/-! Fused operations by the views of their operands (R383). -/

theorem propagated_triple (hx : isNan x = false) (hy : isNan y = false) (hz : isNan z = false) : propagated [z, x, y] = none :=
  propagated_of_no_nan (by simp [hx, hy, hz])

theorem fpFma_fin_fin_fin {n1 n2 n3 : Bool} {m1 m2 m3 : Nat} {e1 e2 e3 : Int} (hx : view x = .fin n1 m1 e1)
    (hy : view y = .fin n2 m2 e2) (hz : view z = .fin n3 m3 e3) :
    fpFma f env x y z = sumFinite f env (n1 ^^ n2) (m1 * m2) (e1 + e2) n3 m3 e3 := by
  rw [fpFma, propagated_triple (isNan_eq_false_of_view_fin hx) (isNan_eq_false_of_view_fin hy) (isNan_eq_false_of_view_fin hz),
    hx, hy, hz]

theorem fpFma_fin_fin_inf {n1 n2 c : Bool} {m1 m2 : Nat} {e1 e2 : Int} (hx : view x = .fin n1 m1 e1)
    (hy : view y = .fin n2 m2 e2) (hz : view z = .inf c) : fpFma f env x y z = ⟨fpInf f c, 0⟩ := by
  rw [fpFma, propagated_triple (isNan_eq_false_of_view_fin hx) (isNan_eq_false_of_view_fin hy) (isNan_eq_false_of_view_inf hz),
    hx, hy, hz]

/-- An infinite product by the views of its factors. -/
theorem views_of_infiniteProduct {neg : Bool} (h : infiniteProduct x y neg) :
    (∃ a b, view x = .inf a ∧ view y = .inf b ∧ neg = (a ^^ b)) ∨
    (∃ a n m e, view x = .inf a ∧ view y = .fin n m e ∧ m ≠ 0 ∧ neg = (a ^^ n)) ∨
    (∃ n m e b, view x = .fin n m e ∧ view y = .inf b ∧ m ≠ 0 ∧ neg = (n ^^ b)) := by
  obtain ⟨rfl, ⟨⟨a, hx⟩, ⟨b, hy⟩ | ⟨_, hb, n, m, e, hy, rfl⟩⟩ | ⟨⟨b, hy⟩, _, ha, n, m, e, hx, rfl⟩⟩ := h
  · exact .inl ⟨a, b, hx, hy, by rw [msb_of_view_inf hx, msb_of_view_inf hy]⟩
  · rw [Ne, number_eq_zero_iff] at hb
    exact .inr (.inl ⟨a, n, m, e, hx, hy, hb, by rw [msb_of_view_inf hx, msb_of_view_fin hy]⟩)
  · rw [Ne, number_eq_zero_iff] at ha
    exact .inr (.inr ⟨n, m, e, b, hx, hy, ha, by rw [msb_of_view_fin hx, msb_of_view_inf hy]⟩)

theorem views_of_zeroTimesInfinity (h : zeroTimesInfinity x y) :
    (∃ a n e, view x = .inf a ∧ view y = .fin n 0 e) ∨ ∃ n e b, view x = .fin n 0 e ∧ view y = .inf b := by
  obtain ⟨⟨a, hx⟩, hy⟩ | ⟨hx, b, hy⟩ := h
  · obtain ⟨n, e, hy⟩ := (standsFor_zero_iff y).mp hy
    exact .inl ⟨a, n, e, hx, hy⟩
  · obtain ⟨n, e, hx⟩ := (standsFor_zero_iff x).mp hx
    exact .inr ⟨n, e, b, hx, hy⟩

theorem not_nan_of_zeroTimesInfinity (h : zeroTimesInfinity x y) : isNan x = false ∧ isNan y = false := by
  obtain ⟨_, _, _, hx, hy⟩ | ⟨_, _, _, hx, hy⟩ := views_of_zeroTimesInfinity h
  · exact ⟨isNan_eq_false_of_view_inf hx, isNan_eq_false_of_view_fin hy⟩
  · exact ⟨isNan_eq_false_of_view_fin hx, isNan_eq_false_of_view_inf hy⟩

theorem not_nan_of_infiniteProduct {neg : Bool} (h : infiniteProduct x y neg) : isNan x = false ∧ isNan y = false := by
  obtain ⟨_, _, hx, hy, _⟩ | ⟨_, _, _, _, hx, hy, _⟩ | ⟨_, _, _, _, hx, hy, _⟩ := views_of_infiniteProduct h
  · exact ⟨isNan_eq_false_of_view_inf hx, isNan_eq_false_of_view_inf hy⟩
  · exact ⟨isNan_eq_false_of_view_inf hx, isNan_eq_false_of_view_fin hy⟩
  · exact ⟨isNan_eq_false_of_view_fin hx, isNan_eq_false_of_view_inf hy⟩

theorem fpFma_infiniteProduct_fin {neg n : Bool} {m : Nat} {e : Int} (h : infiniteProduct x y neg) (hz : view z = .fin n m e) :
    fpFma f env x y z = ⟨fpInf f neg, 0⟩ := by
  obtain ⟨hnx, hny⟩ := not_nan_of_infiniteProduct h
  rw [fpFma, propagated_triple hnx hny (isNan_eq_false_of_view_fin hz)]
  obtain ⟨a, b, hx, hy, rfl⟩ | ⟨a, k, j, d, hx, hy, hj, rfl⟩ | ⟨k, j, d, b, hx, hy, hj, rfl⟩ := views_of_infiniteProduct h
  · rw [hx, hy, hz]
  · rw [hx, hy, hz]
    exact if_neg hj
  · rw [hx, hy, hz]
    exact if_neg hj

theorem fpFma_infiniteProduct_inf {neg c : Bool} (h : infiniteProduct x y neg) (hz : view z = .inf c) :
    fpFma f env x y z = if neg = c then ⟨fpInf f c, 0⟩ else invalidResult f := by
  obtain ⟨hnx, hny⟩ := not_nan_of_infiniteProduct h
  rw [fpFma, propagated_triple hnx hny (isNan_eq_false_of_view_inf hz)]
  obtain ⟨a, b, hx, hy, rfl⟩ | ⟨a, k, j, d, hx, hy, hj, rfl⟩ | ⟨k, j, d, b, hx, hy, hj, rfl⟩ := views_of_infiniteProduct h
  · rw [hx, hy, hz]
  · rw [hx, hy, hz]
    exact if_neg hj
  · rw [hx, hy, hz]
    exact if_neg hj

theorem fpFma_zeroTimesInfinity (h : zeroTimesInfinity x y) (hnz : isNan z = false) : fpFma f env x y z = invalidResult f := by
  obtain ⟨hnx, hny⟩ := not_nan_of_zeroTimesInfinity h
  rw [fpFma, propagated_triple hnx hny hnz]
  rw [← Bool.not_eq_true, ← view_eq_nan_iff] at hnz
  cases hz : view z with
  | nan => exact absurd hz hnz
  | inf _ | fin _ _ _ =>
    obtain ⟨_, _, _, hx, hy⟩ | ⟨_, _, _, hx, hy⟩ := views_of_zeroTimesInfinity h
    · rw [hx, hy]
      rfl
    · rw [hx, hy]
      rfl

end

/-! The value of a sum. -/

section

variable {f : FpFormat} {env : FpEnv} {x y z : BitVec f.width} {a b c : ℝ}

theorem standsFor_negatedNumber (h : standsFor y b) : standsFor (negatedNumber y) (-b) := by
  obtain ⟨neg, m, e, hview, rfl⟩ := h
  exact ⟨!neg, m, e, view_negatedNumber_fin hview, negated_number neg m e⟩

theorem msb_negatedNumber (h : standsFor y b) : (negatedNumber y).msb = !y.msb := by
  obtain ⟨neg, m, e, hview, _⟩ := h
  rw [msb_of_view_fin (view_negatedNumber_fin hview), msb_of_view_fin hview]

/-- The sign of an exact zero sum of two parts (R375). -/
def zeroSumSign (env : FpEnv) (n1 n2 : Bool) : Bool := if n1 = n2 then n1 else decide (env.rm = .towardNegative)

theorem fpAdd_value (hf : f = fp32 ∨ f = fp64) (hx : standsFor x a) (hy : standsFor y b) :
    (a + b ≠ 0 → correctlyRounded f env (a + b) (fpAdd f env x y)) ∧
    (a + b = 0 → exactZero (fpAdd f env x y) (zeroSumSign env x.msb y.msb)) := by
  obtain ⟨n1, m1, e1, hvx, ha⟩ := hx
  obtain ⟨n2, m2, e2, hvy, hb⟩ := hy
  rw [fpAdd_fin_fin hvx hvy, msb_of_view_fin hvx, msb_of_view_fin hvy]
  exact sumFinite_value hf env ha hb

theorem fpFma_value (hf : f = fp32 ∨ f = fp64) (hx : standsFor x a) (hy : standsFor y b) (hz : standsFor z c) :
    (a * b + c ≠ 0 → correctlyRounded f env (a * b + c) (fpFma f env x y z)) ∧
    (a * b + c = 0 → exactZero (fpFma f env x y z) (zeroSumSign env (x.msb ^^ y.msb) z.msb)) := by
  obtain ⟨n1, m1, e1, hvx, rfl⟩ := hx
  obtain ⟨n2, m2, e2, hvy, rfl⟩ := hy
  obtain ⟨n3, m3, e3, hvz, hc⟩ := hz
  rw [fpFma_fin_fin_fin hvx hvy hvz, msb_of_view_fin hvx, msb_of_view_fin hvy, msb_of_view_fin hvz]
  exact sumFinite_value hf env (product_of_numbers n1 n2 m1 m2 e1 e2) hc

end

theorem zeroSumSign_not (env : FpEnv) (n k : Bool) :
    zeroSumSign env n (!k) = if n ≠ k then n else decide (env.rm = .towardNegative) := by
  cases n <;> cases k <;> rfl

theorem zeroSumSign_eq_right (env : FpEnv) (n k : Bool) :
    zeroSumSign env n k = if n = k then k else decide (env.rm = .towardNegative) := by
  cases n <;> cases k <;> rfl

/-- Settles O47: a difference is the sum with the negated operand; sums of numbers are formed in a common unit, the rest reads the
views. -/
theorem sumAndFusedValue : Obligations.SumAndFusedValue := by
  intro f hf env x y z down hdown
  subst hdown
  refine ⟨fun a b hx hy => ?numbers, fun ⟨n, hx⟩ hy => ?infFin, fun hx ⟨k, hy⟩ => ?finInf, fun ⟨n, hx⟩ ⟨k, hy⟩ => ?infInf,
    fun hzero hz => ?zeroInf, fun neg hprod => ⟨fun hz => ?prodFin, fun ⟨c, hz⟩ hmsb => ?prodLike, fun ⟨c, hz⟩ hmsb => ?prodUnlike⟩,
    fun hx hy ⟨c, hz⟩ => ?finProduct⟩
  case numbers =>
    have hsub := fpAdd_value (env := env) hf hx (standsFor_negatedNumber hy)
    rw [← sub_eq_add_neg, msb_negatedNumber hy, zeroSumSign_not] at hsub
    refine ⟨(fpAdd_value hf hx hy).1, (fpAdd_value hf hx hy).2, hsub.1, hsub.2, fun c hz => ?_⟩
    have hfma := fpFma_value (env := env) hf hx hy hz
    have hfms := fpFma_value (env := env) hf hx hy (standsFor_negatedNumber hz)
    rw [zeroSumSign_eq_right] at hfma
    rw [← sub_eq_add_neg, msb_negatedNumber hz, zeroSumSign_not] at hfms
    exact ⟨hfma.1, hfma.2, hfms.1, hfms.2⟩
  case infFin =>
    obtain ⟨_, _, _, hy⟩ := (isFinite_iff y).mp hy
    rw [fpSub, fpAdd_inf_fin hx hy, fpAdd_inf_fin hx (view_negatedNumber_fin hy), ← eq_fpInf_of_view hx]
    exact ⟨rfl, rfl⟩
  case finInf =>
    obtain ⟨_, _, _, hx⟩ := (isFinite_iff x).mp hx
    have hny := view_negatedNumber_inf hy
    rw [fpSub, fpAdd_fin_inf hx hy, fpAdd_fin_inf hx hny, ← eq_fpInf_of_view hy, ← eq_fpInf_of_view hny,
      negatedNumber_of_not_nan (isNan_eq_false_of_view_inf hy)]
    exact ⟨rfl, rfl⟩
  case infInf =>
    rw [fpSub, fpAdd_inf_inf hx hy, fpAdd_inf_inf hx (view_negatedNumber_inf hy), ← eq_fpInf_of_view hx, msb_of_view_inf hx,
      msb_of_view_inf hy]
    refine ⟨fun heq => ?_, fun hne => ?_⟩
    · rw [if_pos heq, if_neg (by simp [heq])]
      exact ⟨rfl, rfl⟩
    · rw [if_neg hne, if_pos (Bool.eq_not.mpr hne)]
      exact ⟨rfl, rfl⟩
  case zeroInf =>
    have hnz : isNan (negatedNumber z) = false := by rw [negatedNumber_of_not_nan hz, isNan_negated, hz]
    exact ⟨fpFma_zeroTimesInfinity hzero hz, fpFma_zeroTimesInfinity hzero hnz⟩
  case prodFin =>
    obtain ⟨_, _, _, hz⟩ := (isFinite_iff z).mp hz
    rw [fpFms, fpFma_infiniteProduct_fin hprod hz, fpFma_infiniteProduct_fin hprod (view_negatedNumber_fin hz)]
    exact ⟨infinite_fpInf f neg 0, infinite_fpInf f neg 0⟩
  case prodLike =>
    obtain rfl : c = neg := (msb_of_view_inf hz).symm.trans hmsb
    rw [fpFms, fpFma_infiniteProduct_inf hprod hz, fpFma_infiniteProduct_inf hprod (view_negatedNumber_inf hz), if_pos rfl,
      if_neg (by simp)]
    exact ⟨infinite_fpInf f c 0, rfl⟩
  case prodUnlike =>
    obtain rfl : c = !neg := Bool.eq_not.mpr (msb_of_view_inf hz ▸ hmsb)
    rw [fpFms, fpFma_infiniteProduct_inf hprod hz, fpFma_infiniteProduct_inf hprod (view_negatedNumber_inf hz), if_neg (by simp),
      Bool.not_not, if_pos rfl]
    exact ⟨rfl, infinite_fpInf f neg 0⟩
  case finProduct =>
    obtain ⟨_, _, _, hx⟩ := (isFinite_iff x).mp hx
    obtain ⟨_, _, _, hy⟩ := (isFinite_iff y).mp hy
    have hnz := view_negatedNumber_inf hz
    rw [fpFms, fpFma_fin_fin_inf hx hy hz, fpFma_fin_fin_inf hx hy hnz, ← eq_fpInf_of_view hz, ← eq_fpInf_of_view hnz,
      negatedNumber_of_not_nan (isNan_eq_false_of_view_inf hz)]
    exact ⟨rfl, rfl⟩

end Sys2Proof.Machine

/-! SUPPORT. The values of products, quotients and reciprocals (R372, R379 to R382, R408). -/

namespace Sys2Proof.Machine

/-! A quotient or root cut to an integer, with a last bit for what was cut off. -/

/-- With enough bits it stands for twice the number that was cut. -/
theorem represents_withSticky {f : FpFormat} {t : ℝ} {q : Nat} {cut : Bool} (hle : q ≤ t) (hlt : t < q + 1)
    (hcut : cut = true ↔ t ≠ q) (hbits : 2 ^ (f.fracBits + 1) ≤ q) : Represents f (withSticky q cut) (2 * t) := by
  have hpow : 2 ^ (f.fracBits + 2) = 2 * 2 ^ (f.fracBits + 1) := pow_succ' 2 _
  refine .inr ⟨by unfold withSticky; omega, fun z => ?_⟩
  rw [mul_lt_mul_iff_right₀ two_pos, mul_lt_mul_iff_right₀ two_pos]
  cases cut with
  | false =>
    have heq : t = q := by simpa using hcut
    simp [withSticky, heq]
  | true =>
    have hgt : (q : ℝ) < t := lt_of_le_of_ne hle (hcut.mp rfl).symm
    have hodd : (withSticky q true : ℝ) = 2 * q + 1 := by simp [withSticky]
    rw [hodd]
    obtain hz | hz := le_or_gt z q
    · have hz' : (z : ℝ) ≤ q := by exact_mod_cast hz
      exact ⟨iff_of_false (by linarith) (by linarith), iff_of_true (by linarith) (by linarith)⟩
    · have hz' : (q : ℝ) + 1 ≤ z := by exact_mod_cast hz
      exact ⟨iff_of_true (by linarith) (by linarith), iff_of_false (by linarith) (by linarith)⟩

/-- A quotient of integers and its integer part. -/
theorem natCast_div_facts (n : Nat) {d : Nat} (hd : 0 < d) :
    ((n / d : ℕ) : ℝ) ≤ n / d ∧ (n / d : ℝ) < (n / d : ℕ) + 1 ∧ (n % d ≠ 0 ↔ (n / d : ℝ) ≠ (n / d : ℕ)) := by
  have hd' : (d : ℝ) ≠ 0 := by positivity
  have hx : (n : ℝ) / d = (n / d : ℕ) + (n % d : ℕ) / d := by
    rw [div_eq_iff hd', add_mul, div_mul_cancel₀ _ hd', mul_comm]
    exact_mod_cast (Nat.div_add_mod n d).symm
  obtain ⟨hle, hlt⟩ := roundsDown_fraction (n := n / d) (Nat.mod_lt n hd)
  rw [← hx] at hle hlt
  refine ⟨hle, hlt, ?_⟩
  rw [hx, Ne, Ne, add_eq_left, div_eq_zero_iff, Nat.cast_eq_zero]
  simp [hd']

/-! Quotients of numbers. -/

theorem quotientFinite_value {f : FpFormat} (hf : f = fp32 ∨ f = fp64) (env : FpEnv) {n1 n2 : Bool} {m1 m2 : Nat} {e1 e2 : Int}
    {a b : ℝ} (ha : a = (if n1 then -1 else 1) * m1 * 2 ^ e1) (hb : b = (if n2 then -1 else 1) * m2 * 2 ^ e2) (hm1 : 0 < m1)
    (hm2 : 0 < m2) (hbound : m2 < 2 ^ (f.fracBits + 1)) :
    correctlyRounded f env (a / b) (quotientFinite f env (n1 ^^ n2) m1 e1 m2 e2) := by
  obtain ⟨k, hk⟩ : ∃ k, k = 2 * f.precision + 3 := ⟨_, rfl⟩
  rw [quotientFinite, ← hk]
  have hquot : 2 ^ (f.fracBits + 1) ≤ m1 * 2 ^ k / m2 := by
    rw [Nat.le_div_iff_mul_le hm2]
    calc 2 ^ (f.fracBits + 1) * m2 ≤ 2 ^ (f.fracBits + 1) * 2 ^ (f.fracBits + 1) := Nat.mul_le_mul_left _ hbound.le
      _ ≤ 2 ^ k := by
        rw [← pow_add]
        exact Nat.pow_le_pow_right two_pos (by rw [hk, FpFormat.precision]; omega)
      _ ≤ m1 * 2 ^ k := Nat.le_mul_of_pos_left _ hm1
  obtain ⟨hle, hlt, hcut⟩ := natCast_div_facts (m1 * 2 ^ k) hm2
  have hrep := represents_withSticky (f := f) hle hlt (decide_eq_true_iff.trans hcut) hquot
  have hm1' : (0 : ℝ) < m1 := by exact_mod_cast hm1
  have hm2' : (0 : ℝ) < m2 := by exact_mod_cast hm2
  refine correctlyRounded_signed hf env (n1 ^^ n2) (p := m1 / m2 * 2 ^ (e1 - e2)) ?_ (by positivity) ?_ ?_
  · unfold withSticky
    have := Nat.two_pow_pos (f.fracBits + 1)
    omega
  · have hsign : (if n2 then -1 else 1 : ℝ) ≠ 0 := by cases n2 <;> simp
    have hsq : (if n2 then -1 else 1 : ℝ) * (if n2 then -1 else 1) = 1 := by cases n2 <;> simp
    rw [ha, hb, sign_xor, zpow_sub₀ two_ne_zero, div_eq_iff (by positivity)]
    field_simp
    rw [sq, hsq]
  · convert hrep using 1
    rw [show e1 - e2 - k - 1 = e1 - e2 - (k + 1 : ℕ) by push_cast; ring, zpow_sub₀ two_ne_zero (e1 - e2), zpow_natCast]
    push_cast
    field_simp
    ring

/-! Products and quotients by the views of their operands. -/

section

variable {f : FpFormat} {env : FpEnv} {x y : BitVec f.width} {a b : ℝ}

theorem fpMul_value (hf : f = fp32 ∨ f = fp64) (hx : standsFor x a) (hy : standsFor y b) :
    (a * b ≠ 0 → correctlyRounded f env (a * b) (fpMul f env x y)) ∧
    (a * b = 0 → exactZero (fpMul f env x y) (x.msb ^^ y.msb)) := by
  obtain ⟨n1, m1, e1, hvx, rfl⟩ := hx
  obtain ⟨n2, m2, e2, hvy, rfl⟩ := hy
  rw [fpMul, propagated_pair (isNan_eq_false_of_view_fin hvx) (isNan_eq_false_of_view_fin hvy), hvx, hvy, msb_of_view_fin hvx,
    msb_of_view_fin hvy]
  exact roundFp_value hf env _ (product_of_numbers n1 n2 m1 m2 e1 e2)

theorem fpMul_zeroTimesInfinity (h : zeroTimesInfinity x y) : fpMul f env x y = invalidResult f := by
  obtain ⟨hnx, hny⟩ := not_nan_of_zeroTimesInfinity h
  rw [fpMul, propagated_pair hnx hny]
  obtain ⟨_, _, _, hx, hy⟩ | ⟨_, _, _, hx, hy⟩ := views_of_zeroTimesInfinity h
  · rw [hx, hy]
    rfl
  · rw [hx, hy]
    rfl

theorem fpMul_infiniteProduct {neg : Bool} (h : infiniteProduct x y neg) : fpMul f env x y = ⟨fpInf f neg, 0⟩ := by
  obtain ⟨hnx, hny⟩ := not_nan_of_infiniteProduct h
  rw [fpMul, propagated_pair hnx hny]
  obtain ⟨_, _, hx, hy, rfl⟩ | ⟨_, _, _, _, hx, hy, hm, rfl⟩ | ⟨_, _, _, _, hx, hy, hm, rfl⟩ := views_of_infiniteProduct h
  · rw [hx, hy]
  · rw [hx, hy]
    exact if_neg hm
  · rw [hx, hy]
    exact if_neg hm

theorem fpDiv_fin_fin {n1 n2 : Bool} {m1 m2 : Nat} {e1 e2 : Int} (hx : view x = .fin n1 m1 e1) (hy : view y = .fin n2 m2 e2) :
    fpDiv f env x y =
      if m2 = 0 then (if m1 = 0 then invalidResult f else ⟨fpInf f (n1 ^^ n2), excZ⟩)
      else if m1 = 0 then ⟨fpZero f (n1 ^^ n2), 0⟩
      else quotientFinite f env (n1 ^^ n2) m1 e1 m2 e2 := by
  rw [fpDiv, propagated_pair (isNan_eq_false_of_view_fin hx) (isNan_eq_false_of_view_fin hy), hx, hy]

theorem fpDiv_inf_fin {n1 n2 : Bool} {m : Nat} {e : Int} (hx : view x = .inf n1) (hy : view y = .fin n2 m e) :
    fpDiv f env x y = ⟨fpInf f (n1 ^^ n2), 0⟩ := by
  rw [fpDiv, propagated_pair (isNan_eq_false_of_view_inf hx) (isNan_eq_false_of_view_fin hy), hx, hy]

theorem fpDiv_fin_inf {n1 n2 : Bool} {m : Nat} {e : Int} (hx : view x = .fin n1 m e) (hy : view y = .inf n2) :
    fpDiv f env x y = ⟨fpZero f (n1 ^^ n2), 0⟩ := by
  rw [fpDiv, propagated_pair (isNan_eq_false_of_view_fin hx) (isNan_eq_false_of_view_inf hy), hx, hy]

theorem fpDiv_inf_inf {n1 n2 : Bool} (hx : view x = .inf n1) (hy : view y = .inf n2) : fpDiv f env x y = invalidResult f := by
  rw [fpDiv, propagated_pair (isNan_eq_false_of_view_inf hx) (isNan_eq_false_of_view_inf hy), hx, hy]

theorem fpDiv_value (hf : f = fp32 ∨ f = fp64) (hx : standsFor x a) (hy : standsFor y b) :
    (b ≠ 0 → a ≠ 0 → correctlyRounded f env (a / b) (fpDiv f env x y)) ∧
    (b ≠ 0 → a = 0 → exactZero (fpDiv f env x y) (x.msb ^^ y.msb)) ∧
    (b = 0 → a ≠ 0 → infinite (fpDiv f env x y) (x.msb ^^ y.msb) 0x08) ∧
    (b = 0 → a = 0 → invalid (fpDiv f env x y)) := by
  obtain ⟨n1, m1, e1, hvx, ha⟩ := hx
  obtain ⟨n2, m2, e2, hvy, hb⟩ := hy
  have ha0 : a = 0 ↔ m1 = 0 := by rw [ha, number_eq_zero_iff]
  have hb0 : b = 0 ↔ m2 = 0 := by rw [hb, number_eq_zero_iff]
  rw [fpDiv_fin_fin hvx hvy, msb_of_view_fin hvx, msb_of_view_fin hvy]
  simp only [ne_eq, ha0, hb0]
  refine ⟨fun h2 h1 => ?_, fun h2 h1 => ?_, fun h2 h1 => ?_, fun h2 h1 => ?_⟩
  · rw [if_neg h2, if_neg h1]
    exact quotientFinite_value hf env ha hb (Nat.pos_of_ne_zero h1) (Nat.pos_of_ne_zero h2) (view_fin_bounds hvy).1
  · rw [if_neg h2, if_pos h1]
    exact exactZero_fpZero hf _
  · rw [if_pos h2, if_neg h1]
    exact infinite_fpInf f _ _
  · rw [if_pos h2, if_pos h1]
    exact invalid_invalidResult f

/-! Reciprocals (R408). -/

theorem view_fpOne (hf : f = fp32 ∨ f = fp64) : view (fpOne f) = .fin false (2 ^ f.fracBits) (-f.fracBits) := by
  rcases hf with rfl | rfl <;> decide

theorem standsFor_fpOne (hf : f = fp32 ∨ f = fp64) : standsFor (fpOne f) 1 :=
  ⟨false, _, _, view_fpOne hf, by simp⟩

theorem fpRecip_value (hf : f = fp32 ∨ f = fp64) (hx : standsFor x a) :
    (a ≠ 0 → correctlyRounded f env (1 / a) (fpRecip f env x)) ∧ (a = 0 → infinite (fpRecip f env x) x.msb 0x08) := by
  obtain ⟨hquot, _, hinf, _⟩ := fpDiv_value (env := env) hf (standsFor_fpOne hf) hx
  rw [msb_of_view_fin (view_fpOne hf), Bool.false_xor] at hinf
  exact ⟨fun h => hquot h one_ne_zero, fun h => hinf h one_ne_zero⟩

theorem fpRecip_inf (hf : f = fp32 ∨ f = fp64) {neg : Bool} (hx : view x = .inf neg) : fpRecip f env x = ⟨fpZero f neg, 0⟩ := by
  rw [fpRecip, fpDiv_fin_inf (view_fpOne hf) hx, Bool.false_xor]

end

/-- Settles O48: products are exact, quotients are cut with a last bit for the rest, and the other cases read the views. -/
theorem productAndQuotientValue : Obligations.ProductAndQuotientValue := by
  intro f hf env x y
  refine ⟨fun a b hx hy => ?numbers, fun h => fpMul_zeroTimesInfinity h, fun neg h => ?infProduct, fun ⟨n, hx⟩ hy => ?infFin,
    fun hx ⟨k, hy⟩ => ?finInf, fun ⟨n, hx⟩ ⟨k, hy⟩ => fpDiv_inf_inf hx hy, fun a hx => fpRecip_value hf hx, fun ⟨n, hx⟩ => ?recip⟩
  case numbers =>
    obtain ⟨hmul, hzero⟩ := fpMul_value (env := env) hf hx hy
    exact ⟨hmul, hzero, fpDiv_value hf hx hy⟩
  case infProduct =>
    rw [fpMul_infiniteProduct h]
    exact infinite_fpInf f neg 0
  case infFin =>
    obtain ⟨_, _, _, hy⟩ := (isFinite_iff y).mp hy
    rw [fpDiv_inf_fin hx hy, msb_of_view_inf hx, msb_of_view_fin hy]
    exact infinite_fpInf f _ 0
  case finInf =>
    obtain ⟨_, _, _, hx⟩ := (isFinite_iff x).mp hx
    rw [fpDiv_fin_inf hx hy, msb_of_view_fin hx, msb_of_view_inf hy]
    exact exactZero_fpZero hf _
  case recip =>
    rw [fpRecip_inf hf hx, msb_of_view_inf hx]
    exact exactZero_fpZero hf n

end Sys2Proof.Machine

/-! SUPPORT. The values of roots and their reciprocals (R406 to R411), and of the conversions to floating point (R421 to R424). -/

namespace Sys2Proof.Machine

/-! The integer square root. -/

theorem isqrtFrom_spec (n k : Nat) {r : Nat} (hle : r * r ≤ n) (hlt : n < (r + 2 ^ k) * (r + 2 ^ k)) :
    isqrtFrom n k r * isqrtFrom n k r ≤ n ∧ n < (isqrtFrom n k r + 1) * (isqrtFrom n k r + 1) := by
  induction k generalizing r with
  | zero => exact ⟨hle, hlt⟩
  | succ k ih =>
    rw [isqrtFrom]
    split
    case isTrue h => exact ih h (by rwa [add_assoc, ← two_mul, ← pow_succ'])
    case isFalse h => exact ih hle (not_le.mp h)

theorem isqrt_spec (n : Nat) : isqrt n * isqrt n ≤ n ∧ n < (isqrt n + 1) * (isqrt n + 1) := by
  refine isqrtFrom_spec n _ (by simp) ?_
  rw [zero_add, ← pow_add]
  exact Nat.lt_log2_self.trans_le (Nat.pow_le_pow_right two_pos (by omega))

/-- The root of a number and the integer below it. -/
theorem root_facts {y : ℝ} {r : Nat} (hle : (r : ℝ) * r ≤ y) (hlt : y < (r + 1) * (r + 1)) :
    (r : ℝ) ≤ √y ∧ √y < r + 1 ∧ (y ≠ r * r ↔ √y ≠ r) := by
  have hr : (0 : ℝ) ≤ r := Nat.cast_nonneg r
  have hy : 0 ≤ y := (mul_nonneg hr hr).trans hle
  refine ⟨(Real.le_sqrt hr hy).mpr (by rwa [sq]), (Real.sqrt_lt' (by positivity)).mpr (by rwa [sq]), ?_⟩
  rw [Ne, Ne, Real.sqrt_eq_iff_mul_self_eq hy hr]

/-- A number with many bits has a root with half of them. -/
theorem two_pow_le_isqrt {b n : Nat} (h : 2 ^ (2 * b) ≤ n) : 2 ^ b ≤ isqrt n := by
  have hlt : (2 ^ b) ^ 2 < (isqrt n + 1) ^ 2 := by
    rw [← pow_mul, mul_comm b 2, sq]
    exact h.trans_lt (isqrt_spec n).2
  exact Nat.le_of_lt_succ (lt_of_pow_lt_pow_left₀ 2 (by omega) hlt)

/-! Roots of numbers. -/

/-- A rounded root: the integer root of `y`, with a last bit for the rest, in units that make up the number. -/
theorem correctlyRounded_root {f : FpFormat} (hf : f = fp32 ∨ f = fp64) (env : FpEnv) {y x : ℝ} {r : Nat} {cut : Bool} {h : Int}
    (hle : (r : ℝ) * r ≤ y) (hlt : y < (r + 1) * (r + 1)) (hcut : cut = true ↔ y ≠ r * r) (hbits : 2 ^ (f.fracBits + 1) ≤ r)
    (hx : x = √y * 2 ^ h) : correctlyRounded f env x (roundNonzero f env false (withSticky r cut) (h - 1)) := by
  obtain ⟨hler, hltr, hne⟩ := root_facts hle hlt
  have hrpos : 0 < r := (Nat.two_pow_pos _).trans_le hbits
  have hroot : 0 < √y := lt_of_lt_of_le (by exact_mod_cast hrpos) hler
  have hrep := represents_withSticky hler hltr (hcut.trans hne) hbits
  refine correctlyRounded_signed hf env false (p := x) (by unfold withSticky; omega) ?_ (by simp) ?_
  · rw [hx]
    positivity
  · convert hrep using 1
    rw [hx, zpow_sub_one₀ two_ne_zero]
    field_simp

theorem sqrtFinite_value {f : FpFormat} (hf : f = fp32 ∨ f = fp64) (env : FpEnv) {m : Nat} {e : Int} (hm : 0 < m) :
    correctlyRounded f env (√(m * 2 ^ e)) (sqrtFinite f env m e) := by
  obtain ⟨k, hk⟩ : ∃ k, k = sqrtShift f e := ⟨_, rfl⟩
  have heven : e - k = 2 * ((e - k) / 2) := by
    rw [hk, sqrtShift]
    omega
  obtain ⟨hle, hlt⟩ := isqrt_spec (m * 2 ^ k)
  rw [sqrtFinite, ← hk]
  refine correctlyRounded_root hf env (y := (m * 2 ^ k : ℕ)) (by exact_mod_cast hle) (by exact_mod_cast hlt) ?_
    (two_pow_le_isqrt ?_) ?_
  · rw [decide_eq_true_iff, ne_comm]
    exact_mod_cast Iff.rfl
  · calc 2 ^ (2 * (f.fracBits + 1)) ≤ 2 ^ k := Nat.pow_le_pow_right two_pos (by rw [hk, sqrtShift, FpFormat.precision]; omega)
      _ ≤ m * 2 ^ k := Nat.le_mul_of_pos_left _ hm
  · have hsplit : (m : ℝ) * 2 ^ e = (m * 2 ^ k : ℕ) * (2 ^ ((e - k) / 2)) ^ 2 := by
      rw [← zpow_natCast, ← zpow_mul, mul_comm _ ((2 : ℕ) : ℤ), Nat.cast_ofNat, ← heven, zpow_sub₀ two_ne_zero, zpow_natCast]
      push_cast
      field_simp
    rw [hsplit, Real.sqrt_mul (Nat.cast_nonneg _), Real.sqrt_sq (by positivity)]

theorem rsqrtFinite_value {f : FpFormat} (hf : f = fp32 ∨ f = fp64) (env : FpEnv) {m : Nat} {e : Int} (hm : 0 < m)
    (hbound : m < 2 ^ (f.fracBits + 1)) : correctlyRounded f env (1 / √(m * 2 ^ e)) (rsqrtFinite f env m e) := by
  obtain ⟨k, hk⟩ : ∃ k, k = 2 * f.precision + 3 := ⟨_, rfl⟩
  obtain ⟨s, hs⟩ : ∃ s, s = (e % 2).toNat := ⟨_, rfl⟩
  obtain ⟨d, hd⟩ : ∃ d, d = m * 2 ^ s := ⟨_, rfl⟩
  have heven : e - s = 2 * ((e - s) / 2) := by omega
  have hdpos : 0 < d := hd ▸ Nat.mul_pos hm (Nat.two_pow_pos s)
  have hdbound : d ≤ 2 ^ (f.fracBits + 2) := by
    rw [hd, pow_succ 2 (f.fracBits + 1)]
    exact Nat.mul_le_mul hbound.le (Nat.pow_le_pow_right two_pos (by omega : s ≤ 1))
  have hdr : (0 : ℝ) < d := by exact_mod_cast hdpos
  obtain ⟨hle, hlt⟩ := isqrt_spec (2 ^ (2 * k) / d)
  rw [Nat.le_div_iff_mul_le hdpos] at hle
  rw [Nat.div_lt_iff_lt_mul hdpos] at hlt
  rw [rsqrtFinite, ← hk, ← hs, ← hd]
  generalize hr : isqrt (2 ^ (2 * k) / d) = r at hle hlt ⊢
  refine correctlyRounded_root hf env (y := 2 ^ (2 * k) / d) ?_ ?_ ?_ (hr ▸ two_pow_le_isqrt ?_) ?_
  · rw [le_div_iff₀ hdr]
    exact_mod_cast hle
  · rw [div_lt_iff₀ hdr]
    exact_mod_cast hlt
  · rw [decide_eq_true_iff, Ne, Ne, div_eq_iff hdr.ne', eq_comm]
    exact_mod_cast Iff.rfl
  · rw [Nat.le_div_iff_mul_le hdpos]
    calc 2 ^ (2 * (f.fracBits + 1)) * d ≤ 2 ^ (2 * (f.fracBits + 1)) * 2 ^ (f.fracBits + 2) := Nat.mul_le_mul_left _ hdbound
      _ ≤ 2 ^ (2 * k) := by
        rw [← pow_add]
        exact Nat.pow_le_pow_right two_pos (by rw [hk, FpFormat.precision]; omega)
  · have hsplit : (m : ℝ) * 2 ^ e = d * (2 ^ ((e - s) / 2)) ^ 2 := by
      rw [← zpow_natCast, ← zpow_mul, mul_comm _ ((2 : ℕ) : ℤ), Nat.cast_ofNat, ← heven, zpow_sub₀ two_ne_zero, zpow_natCast, hd]
      push_cast
      field_simp
    rw [hsplit, Real.sqrt_mul hdr.le, Real.sqrt_sq (by positivity), mul_comm 2 k, pow_mul, Real.sqrt_div (by positivity),
      Real.sqrt_sq (by positivity), zpow_sub₀ two_ne_zero, zpow_neg, zpow_natCast]
    field_simp

/-! What a correctly rounded number of the format's range is. -/

section

variable {f : FpFormat} {env : FpEnv} {x : ℝ} {r : FpResult f.width}

/-- The exceptions are none where V, Z, O are not among them, nor U, nor I. -/
theorem exc_eq_zero {exc : BitVec 5} (hhigh : exc.extractLsb' 2 3 = 0) (hI : exc.getLsbD 0 = false) (hU : exc.getLsbD 1 = false) :
    exc = 0 := by
  revert exc
  decide

theorem number_ne_zero_of_magnitude {neg : Bool} {m : Nat} {e : Int} (h : 0 < (m : ℝ) * 2 ^ e) :
    (if neg then -1 else 1 : ℝ) * m * 2 ^ e ≠ 0 := by
  rw [mul_assoc]
  cases neg <;> simp [h.ne']

/-- Within the format's exponents it is a finite number, and not 0. -/
theorem finite_of_correctlyRounded (h : correctlyRounded f env x r) (hlow : 2 ^ f.qmin ≤ |x|) (hhigh : |x| < 2 ^ f.emax) :
    ∃ d, standsFor r.bits d ∧ d ≠ 0 := by
  obtain ⟨neg, top, unit, low, n, k, _, htop, htop', hunit, hlowUnit, hn, hk, _, hfits⟩ := h
  have hu : (0 : ℝ) < 2 ^ unit := zpow_pos two_pos unit
  have hl : (0 : ℝ) < 2 ^ low := zpow_pos two_pos low
  have htopMax : top < f.emax := (zpow_lt_zpow_iff_right₀ (one_lt_two (α := ℝ))).mp (htop.trans_lt hhigh)
  have hnle : (n : ℝ) ≤ 2 ^ (f.fracBits + 1) := by
    have hfull : |x| / 2 ^ unit ≤ ((2 ^ (f.fracBits + 1) : ℕ) : ℤ) := by
      rw [div_le_iff₀ hu]
      refine htop'.le.trans_eq ?_
      rw [show top + 1 = (f.fracBits + 1 : ℕ) + unit by rw [hunit]; push_cast; ring, zpow_add₀ two_ne_zero, zpow_natCast]
      push_cast
      rfl
    exact_mod_cast roundsInteger_le hn hfull
  have hno : (n : ℝ) * 2 ^ unit < 2 ^ (f.emax + 1) := by
    calc (n : ℝ) * 2 ^ unit ≤ 2 ^ (f.fracBits + 1) * 2 ^ unit := by gcongr
      _ = 2 ^ (top + 1) := by
        rw [← zpow_natCast, ← zpow_add₀ two_ne_zero, hunit]
        congr 1
        push_cast
        ring
      _ < 2 ^ (f.emax + 1) := zpow_lt_zpow_right₀ one_lt_two (by omega)
  obtain ⟨_, ⟨m, e, hview, hvalue⟩, _⟩ := hfits hno
  refine ⟨_, ⟨neg, m, e, hview, rfl⟩, number_ne_zero_of_magnitude ?_⟩
  have hlowLe : (2 : ℝ) ^ low ≤ |x| := by
    obtain hmax | hmax := max_choice unit f.qmin
    · rw [hlowUnit, hmax, hunit]
      exact (zpow_le_zpow_right₀ one_le_two (by omega)).trans htop
    · rwa [hlowUnit, hmax]
  have hkpos := roundsInteger_ge hk (z := 1) (by rw [Int.cast_one, le_div_iff₀ hl, one_mul]; exact hlowLe)
  have hkpos' : (0 : ℝ) < k := by exact_mod_cast (by omega : 0 < k)
  rw [hvalue]
  positivity

/-- A number of the format, from its least normal one on, is rounded to itself with no exception. -/
theorem exact_of_correctlyRounded (h : correctlyRounded f env x r) {m : Nat} {e : Int} (hx : |x| = m * 2 ^ e)
    (hm : m < 2 ^ (f.fracBits + 1)) (he : f.qmin ≤ e) (hlow : 2 ^ f.emin ≤ |x|) (hhigh : |x| < 2 ^ (f.emax + 1)) :
    standsFor r.bits x ∧ r.exc = 0 := by
  obtain ⟨neg, top, unit, low, n, k, hneg, htop, _, hunit, hlowUnit, hn, hk, _, hfits⟩ := h
  have htope : top < e + (f.fracBits + 1 : ℕ) := by
    refine (zpow_lt_zpow_iff_right₀ (one_lt_two (α := ℝ))).mp (htop.trans_lt ?_)
    rw [hx, zpow_add₀ two_ne_zero, zpow_natCast, mul_comm]
    gcongr
    exact_mod_cast hm
  have hexact {q : Int} {j : Nat} (hq : q ≤ e) (hj : roundsInteger env.rm neg (|x| / 2 ^ q) j) : (j : ℝ) * 2 ^ q = |x| := by
    have hu : (2 : ℝ) ^ q ≠ 0 := zpow_ne_zero _ two_ne_zero
    have hwhole : |x| / 2 ^ q = (m * 2 ^ (e - q).toNat : ℕ) := by
      rw [hx, mul_div_assoc, ← zpow_sub₀ two_ne_zero, two_zpow_of_nonneg (by omega)]
      push_cast
      rfl
    rw [hwhole] at hj
    rw [roundsInteger_eq hj, ← hwhole, div_mul_cancel₀ _ hu]
  push_cast at htope
  have hnx := hexact (by omega) hn
  have hkx := hexact (by omega) hk
  rw [hnx, hkx] at hfits
  obtain ⟨hnone, ⟨m', e', hview, hvalue⟩, hinexact, hunder⟩ := hfits hhigh
  refine ⟨⟨neg, m', e', hview, ?_⟩, ?_⟩
  · rw [mul_assoc, hvalue]
    cases neg
    · simp [abs_of_nonneg (not_lt.mp fun hlt => absurd (hneg.mpr hlt) (by decide))]
    · simp [abs_of_neg (hneg.mp rfl)]
  · have hI : r.exc.getLsbD 0 = false := by simpa using hinexact
    have hU : r.exc.getLsbD 1 = false := by
      rw [← Bool.not_eq_true, hunder]
      exact fun hlt => absurd hlow (not_le.mpr hlt.1)
    exact exc_eq_zero hnone hI hU

end

/-! The range of the finite data. -/

theorem qmin_nonpos_emax_gt_one {f : FpFormat} (hf : f = fp32 ∨ f = fp64) : f.qmin ≤ 0 ∧ 1 < f.emax := by
  rcases hf with rfl | rfl <;> decide

theorem view_fin_exp_le {f : FpFormat} (hf : f = fp32 ∨ f = fp64) {y : BitVec f.width} {neg : Bool} {k : Nat} {d : Int}
    (h : view y = .fin neg k d) : d ≤ f.emax - f.fracBits := by
  have hexp : expField y < 2 ^ f.expBits := Nat.mod_lt _ (Nat.two_pow_pos _)
  have hrange : f.qmin + (2 ^ f.expBits - 2) - 1 = f.emax - f.fracBits ∧ f.qmin ≤ f.emax - f.fracBits := by
    rcases hf with rfl | rfl <;> decide
  have hcast : ((2 ^ f.expBits : ℕ) : ℤ) = 2 ^ f.expBits := by push_cast; rfl
  unfold view at h
  split at h
  · split at h <;> simp at h
  case isFalse hne =>
    split at h
    · obtain ⟨_, _, rfl⟩ := FpView.fin.inj h
      exact hrange.2
    · obtain ⟨_, _, rfl⟩ := FpView.fin.inj h
      omega

theorem magnitude_bounds {f : FpFormat} (hf : f = fp32 ∨ f = fp64) {y : BitVec f.width} {neg : Bool} {k : Nat} {d : Int}
    (h : view y = .fin neg k d) (hk : 0 < k) : 2 ^ f.qmin ≤ (k : ℝ) * 2 ^ d ∧ (k : ℝ) * 2 ^ d < 2 ^ (f.emax + 1) := by
  obtain ⟨hkb, hd⟩ := view_fin_bounds h
  have hkb' : (k : ℝ) < 2 ^ (f.fracBits + 1) := by exact_mod_cast hkb
  have hk' : (1 : ℝ) ≤ k := by exact_mod_cast hk
  have hpow : (0 : ℝ) < 2 ^ d := zpow_pos two_pos d
  constructor
  · exact (zpow_le_zpow_right₀ one_le_two hd).trans (le_mul_of_one_le_left hpow.le hk')
  · calc (k : ℝ) * 2 ^ d < 2 ^ (f.fracBits + 1) * 2 ^ d := by gcongr
      _ ≤ 2 ^ (f.fracBits + 1) * 2 ^ (f.emax - f.fracBits) := by
        gcongr
        · exact one_le_two
        · exact view_fin_exp_le hf h
      _ = 2 ^ (f.emax + 1) := by
        rw [← zpow_natCast, ← zpow_add₀ two_ne_zero]
        congr 1
        push_cast
        ring

/-- The root of a number is well within the range of the numbers. -/
theorem sqrt_bounds {f : FpFormat} (hf : f = fp32 ∨ f = fp64) {a : ℝ} (hlow : 2 ^ f.qmin ≤ a) (hhigh : a < 2 ^ (f.emax + 1)) :
    2 ^ f.qmin ≤ |√a| ∧ |√a| < 2 ^ f.emax := by
  obtain ⟨hq, hmax⟩ := qmin_nonpos_emax_gt_one hf
  have hle1 : (2 : ℝ) ^ f.qmin ≤ 1 := zpow_le_one_of_nonpos₀ one_le_two hq
  have hpos : (0 : ℝ) < 2 ^ f.qmin := zpow_pos two_pos _
  rw [abs_of_nonneg (Real.sqrt_nonneg a)]
  constructor
  · exact Real.le_sqrt_of_sq_le ((pow_le_of_le_one hpos.le hle1 two_ne_zero).trans hlow)
  · rw [Real.sqrt_lt' (zpow_pos two_pos _), ← zpow_natCast, ← zpow_mul]
    exact hhigh.trans_le (zpow_le_zpow_right₀ one_le_two (by push_cast; omega))

/-! Roots by the views of their operands (R406, R410). -/

section

variable {f : FpFormat} {env : FpEnv} {x : BitVec f.width}

theorem propagated_single (hx : isNan x = false) : propagated [x] = none := propagated_of_no_nan (by simp [hx])

theorem fpSqrt_fin {neg : Bool} {m : Nat} {e : Int} (hx : view x = .fin neg m e) :
    fpSqrt f env x = if m = 0 then ⟨fpZero f neg, 0⟩ else if neg then invalidResult f else sqrtFinite f env m e := by
  rw [fpSqrt, propagated_single (isNan_eq_false_of_view_fin hx), hx]

theorem fpSqrt_inf {neg : Bool} (hx : view x = .inf neg) :
    fpSqrt f env x = if neg then invalidResult f else ⟨fpInf f false, 0⟩ := by
  rw [fpSqrt, propagated_single (isNan_eq_false_of_view_inf hx), hx]

theorem fpRsqrtOnce_fin {neg : Bool} {m : Nat} {e : Int} (hx : view x = .fin neg m e) :
    fpRsqrtOnce f env x =
      if m = 0 then ⟨fpInf f neg, excZ⟩ else if neg then invalidResult f else rsqrtFinite f env m e := by
  rw [fpRsqrtOnce, propagated_single (isNan_eq_false_of_view_fin hx), hx]

theorem fpRsqrtOnce_inf {neg : Bool} (hx : view x = .inf neg) :
    fpRsqrtOnce f env x = if neg then invalidResult f else ⟨fpZero f false, 0⟩ := by
  rw [fpRsqrtOnce, propagated_single (isNan_eq_false_of_view_inf hx), hx]

theorem fpRsqrt_true : fpRsqrt true f env x = fpRsqrtOnce f env x := rfl

theorem fpRsqrt_false :
    fpRsqrt false f env x =
      ⟨(fpRecip f env (fpSqrt f env x).bits).bits, (fpSqrt f env x).exc ||| (fpRecip f env (fpSqrt f env x).bits).exc⟩ := rfl

/-- The reciprocal of an invalid root's NaN is that NaN, so V is all there is of it. -/
theorem fpRecip_defaultNan (hf : f = fp32 ∨ f = fp64) : fpRecip f env (defaultNan f) = ⟨defaultNan f, 0⟩ := by
  have hq : isQNan (defaultNan f) = true := by rcases hf with rfl | rfl <;> decide
  refine fpRecip_of_propagated hf (propagated_of_qnan ?_ ?_)
  · simp [isSNan_of_isQNan hq]
  · simp [isNan_of_isQNan hq]

theorem invalid_fpRsqrt (hf : f = fp32 ∨ f = fp64) (hsqrt : fpSqrt f env x = invalidResult f)
    (honce : fpRsqrtOnce f env x = invalidResult f) (once : Bool) : invalid (fpRsqrt once f env x) := by
  cases once with
  | true => exact honce
  | false =>
    rw [fpRsqrt_false, hsqrt, invalidResult, fpRecip_defaultNan hf]
    simp [invalid]

theorem infinite_fpRsqrt_of_zero (hf : f = fp32 ∨ f = fp64) {neg : Bool} {e : Int} (hx : view x = .fin neg 0 e) (once : Bool) :
    infinite (fpRsqrt once f env x) neg 0x08 := by
  cases once with
  | true =>
    rw [fpRsqrt_true, fpRsqrtOnce_fin hx, if_pos rfl]
    exact infinite_fpInf f neg _
  | false =>
    have hzero : standsFor (fpZero f neg) 0 := (standsFor_zero_iff _).mpr ⟨_, _, view_fpZero (expBits_pos hf) neg⟩
    obtain ⟨hview, hexc⟩ := (fpRecip_value (env := env) hf hzero).2 rfl
    rw [msb_of_view_fin (view_fpZero (expBits_pos hf) neg)] at hview
    rw [fpRsqrt_false, fpSqrt_fin hx, if_pos rfl]
    exact ⟨hview, by simp [hexc]⟩

theorem exactZero_fpRsqrt_of_inf (hf : f = fp32 ∨ f = fp64) (hx : view x = .inf false) (once : Bool) :
    exactZero (fpRsqrt once f env x) false := by
  cases once with
  | true =>
    rw [fpRsqrt_true, fpRsqrtOnce_inf hx]
    exact exactZero_fpZero hf false
  | false =>
    rw [fpRsqrt_false, fpSqrt_inf hx, if_neg Bool.false_ne_true, fpRecip_inf hf (view_fpInf f false)]
    simpa using exactZero_fpZero hf false

/-- The root of a positive number, and its reciprocal rounded once or twice. -/
theorem root_of_positive (hf : f = fp32 ∨ f = fp64) {m : Nat} {e : Int} (hx : view x = .fin false m e) (hm : 0 < m) :
    correctlyRounded f env (√(m * 2 ^ e)) (fpSqrt f env x) ∧ correctlyRounded f env (1 / √(m * 2 ^ e)) (fpRsqrt true f env x) ∧
      ∃ (t r : FpResult f.width) (d : ℝ), correctlyRounded f env (√(m * 2 ^ e)) t ∧ standsFor t.bits d ∧
        correctlyRounded f env (1 / d) r ∧ fpRsqrt false f env x = ⟨r.bits, t.exc ||| r.exc⟩ := by
  have hsqrt : correctlyRounded f env (√(m * 2 ^ e)) (fpSqrt f env x) := by
    rw [fpSqrt_fin hx, if_neg hm.ne', if_neg Bool.false_ne_true]
    exact sqrtFinite_value hf env hm
  refine ⟨hsqrt, ?once, ?twice⟩
  case once =>
    rw [fpRsqrt_true, fpRsqrtOnce_fin hx, if_neg hm.ne', if_neg Bool.false_ne_true]
    exact rsqrtFinite_value hf env hm (view_fin_bounds hx).1
  case twice =>
    obtain ⟨hlow, hhigh⟩ := magnitude_bounds hf hx hm
    obtain ⟨hlow, hhigh⟩ := sqrt_bounds hf hlow hhigh
    obtain ⟨d, hd, hd0⟩ := finite_of_correctlyRounded hsqrt hlow hhigh
    exact ⟨_, _, d, hsqrt, hd, (fpRecip_value hf hd).1 hd0, fpRsqrt_false⟩

/-! Conversions to floating point by the views of their operands (R421 to R424). -/

theorem fpConvert_fin (g : FpFormat) {neg : Bool} {m : Nat} {e : Int} (hx : view x = .fin neg m e) :
    fpConvert f g env x = roundFp g env neg m e := by
  rw [fpConvert, hx]

theorem fpConvert_inf (g : FpFormat) {neg : Bool} (hx : view x = .inf neg) : fpConvert f g env x = ⟨fpInf g neg, 0⟩ := by
  rw [fpConvert, hx]

theorem standsFor_of_exactZero {r : FpResult f.width} {neg : Bool} (h : exactZero r neg) : standsFor r.bits 0 ∧ r.exc = 0 :=
  ⟨(standsFor_zero_iff _).mpr ⟨_, _, h.1⟩, h.2⟩

/-- A number of few bits and a moderate exponent is a double. -/
theorem roundFp_fp64_exact {neg : Bool} {m : Nat} {e : Int} {a : ℝ} (ha : a = (if neg then -1 else 1) * m * 2 ^ e)
    (hm : m < 2 ^ 53) (hlow : -1022 ≤ e) (hhigh : e ≤ 971) :
    standsFor (roundFp fp64 env neg m e).bits a ∧ (roundFp fp64 env neg m e).exc = 0 := by
  obtain ⟨hround, hzero⟩ := roundFp_value (.inr rfl) env neg ha
  obtain ha0 | ha0 := eq_or_ne a 0
  · rw [ha0]
    exact standsFor_of_exactZero (hzero ha0)
  · have hpow : (0 : ℝ) < 2 ^ e := zpow_pos two_pos e
    have hmpos : 1 ≤ m := Nat.pos_of_ne_zero fun h0 => ha0 (by rw [ha, number_eq_zero_iff, h0])
    have hm1 : (1 : ℝ) ≤ m := by exact_mod_cast hmpos
    have hm53 : (m : ℝ) < 2 ^ (53 : ℤ) := by exact_mod_cast hm
    have habs : |a| = m * 2 ^ e := by
      rw [ha, mul_assoc]
      exact (signed_facts neg (by positivity)).2
    refine exact_of_correctlyRounded (hround ha0) habs hm ?_ ?_ ?_
    · have hq : fp64.qmin = -1074 := by decide
      omega
    · rw [habs]
      exact (zpow_le_zpow_right₀ one_le_two hlow).trans (le_mul_of_one_le_left hpow.le hm1)
    · rw [habs]
      calc (m : ℝ) * 2 ^ e < 2 ^ (53 : ℤ) * 2 ^ e := by gcongr
        _ = 2 ^ (53 + e) := (zpow_add₀ two_ne_zero _ _).symm
        _ ≤ 2 ^ (fp64.emax + 1) := zpow_le_zpow_right₀ one_le_two (by rw [show fp64.emax = 1023 by decide]; omega)

end

theorem toInt_value (w : Word) :
    (w.toInt : ℝ) = (if decide (w.toInt < 0) then -1 else 1) * w.toInt.natAbs * 2 ^ (0 : ℤ) := by
  rw [Nat.cast_natAbs, Int.cast_abs, zpow_zero, mul_one]
  by_cases h : w.toInt < 0
  · simp [h, abs_of_neg (Int.cast_lt_zero.mpr h)]
  · simp [h, abs_of_nonneg (Int.cast_nonneg (not_lt.mp h))]

theorem fpFromInt_value {f : FpFormat} (hf : f = fp32 ∨ f = fp64) (env : FpEnv) (w : Word) :
    (w ≠ 0 → correctlyRounded f env (w.toInt : ℝ) (fpFromInt f env w)) ∧ exactZero (fpFromInt f env 0) false ∧
    (f = fp64 → standsFor (fpFromInt f env w).bits (w.toInt : ℝ) ∧ (fpFromInt f env w).exc = 0) := by
  refine ⟨fun h => ?_, exactZero_fpZero hf false, ?_⟩
  · refine (roundFp_value hf env _ (toInt_value w)).1 fun h0 => h ?_
    rwa [Int.cast_eq_zero, ← BitVec.toInt_zero (w := 32), BitVec.toInt_inj] at h0
  · rintro rfl
    have hlt := BitVec.toInt_lt (x := w)
    have hle := BitVec.le_toInt w
    exact roundFp_fp64_exact (toInt_value w) (by omega) (by decide) (by decide)

theorem fpConvert_value {f g : FpFormat} (hfg : (f = fp32 ∧ g = fp64) ∨ (f = fp64 ∧ g = fp32)) (env : FpEnv)
    {x : BitVec f.width} {a : ℝ} (hx : standsFor x a) :
    (a ≠ 0 → correctlyRounded g env a (fpConvert f g env x)) ∧ (a = 0 → exactZero (fpConvert f g env x) x.msb) ∧
    (g = fp64 → standsFor (fpConvert f g env x).bits a ∧ (fpConvert f g env x).exc = 0) := by
  obtain ⟨neg, m, e, hview, ha⟩ := hx
  have hg : g = fp32 ∨ g = fp64 := by
    obtain ⟨_, hg⟩ | ⟨_, hg⟩ := hfg
    · exact .inr hg
    · exact .inl hg
  obtain ⟨hround, hzero⟩ := roundFp_value hg env neg ha
  rw [fpConvert_fin g hview, msb_of_view_fin hview]
  refine ⟨hround, hzero, ?_⟩
  obtain ⟨rfl, rfl⟩ | ⟨_, rfl⟩ := hfg
  · obtain ⟨hm, hlow⟩ := view_fin_bounds hview
    have hhigh := view_fin_exp_le (.inl rfl) hview
    rw [show fp32.qmin = -149 by decide] at hlow
    rw [show fp32.emax - fp32.fracBits = 104 by decide] at hhigh
    exact fun _ => roundFp_fp64_exact ha (hm.trans (by decide)) (by omega) (by omega)
  · exact fun h => absurd h (by decide)

/-- Settles O49: roots are cut with a last bit for the rest, conversions round the number itself, and the other cases read the
view. The rounded root is a finite number, so that FRSQRT rounded twice has a reciprocal to round. -/
theorem rootAndConversionValue : Obligations.RootAndConversionValue := by
  refine ⟨fun f hf env x => ⟨?numbers, ?posInf, ?negInf, fpFromInt_value hf env⟩,
    fun f g hfg env x => ⟨fun a => fpConvert_value hfg env, ?convertInf⟩⟩
  case numbers =>
    rintro _ ⟨neg, m, e, hx, rfl⟩
    have hpow : (0 : ℝ) < 2 ^ e := zpow_pos two_pos e
    refine ⟨fun hpos => ?_, fun hzero => ?_, fun hneg => ?_⟩
    · have hm : m ≠ 0 := fun h0 => hpos.ne' ((number_eq_zero_iff _ _ _).mpr h0)
      obtain rfl : neg = false := by
        rw [← Bool.not_eq_true, (signed_facts neg (p := m * 2 ^ e) (by positivity)).1, ← mul_assoc]
        exact hpos.not_gt
      simpa using root_of_positive hf hx (Nat.pos_of_ne_zero hm)
    · obtain rfl := (number_eq_zero_iff _ _ _).mp hzero
      rw [fpSqrt_fin hx, if_pos rfl, ← eq_fpZero_of_view hx, msb_of_view_fin hx]
      exact ⟨rfl, infinite_fpRsqrt_of_zero hf hx⟩
    · have hm : m ≠ 0 := fun h0 => hneg.ne ((number_eq_zero_iff _ _ _).mpr h0)
      obtain rfl : neg = true := by
        rwa [(signed_facts neg (p := m * 2 ^ e) (by positivity)).1, ← mul_assoc]
      have hsqrt : fpSqrt f env x = invalidResult f := by rw [fpSqrt_fin hx, if_neg hm, if_pos rfl]
      refine ⟨hsqrt, invalid_fpRsqrt hf hsqrt ?_⟩
      rw [fpRsqrtOnce_fin hx, if_neg hm, if_pos rfl]
  case posInf =>
    rintro ⟨neg, hx⟩ hmsb
    obtain rfl : neg = false := (msb_of_view_inf hx).symm.trans hmsb
    rw [fpSqrt_inf hx, if_neg Bool.false_ne_true, ← eq_fpInf_of_view hx]
    exact ⟨rfl, exactZero_fpRsqrt_of_inf hf hx⟩
  case negInf =>
    rintro ⟨neg, hx⟩ hmsb
    obtain rfl : neg = true := (msb_of_view_inf hx).symm.trans hmsb
    have hsqrt : fpSqrt f env x = invalidResult f := by rw [fpSqrt_inf hx, if_pos rfl]
    refine ⟨hsqrt, invalid_fpRsqrt hf hsqrt ?_⟩
    rw [fpRsqrtOnce_inf hx, if_pos rfl]
  case convertInf =>
    rintro ⟨neg, hx⟩
    rw [fpConvert_inf g hx, msb_of_view_inf hx]
    exact infinite_fpInf g neg 0

end Sys2Proof.Machine

/-! SUPPORT. The integer a float-to-integer conversion rounds to, and the word it gives (R435, R436). -/

namespace Sys2Proof.Machine

/-! The rounded integer, with its sign. -/

theorem roundsInteger_abs_sub_lt_one {rm : RoundingMode} {neg : Bool} {x : ℝ} {n : Nat} (h : roundsInteger rm neg x n) :
    |n - x| < 1 :=
  abs_sub_lt_iff.mpr ⟨by linarith [roundsInteger_sub_one_lt h], by linarith [roundsInteger_lt_add_one h]⟩

/-- To nearest, an integer half a unit away is the even one. -/
theorem roundsInteger_even_of_tie {neg : Bool} {x : ℝ} {n : Nat} (h : roundsInteger .nearestEven neg x n)
    (htie : |n - x| = 1 / 2) : n % 2 = 0 := by
  rw [abs_sub_comm] at htie
  exact h.elim (fun hlt => absurd htie hlt.ne) And.right

theorem cast_roundToInt (rm : RoundingMode) (neg : Bool) (m : Nat) (e : Int) :
    (roundToInt rm neg m e : ℝ) = signedUnits neg 1 (roundUnit rm neg m e 0) := by
  cases neg <;> simp [roundToInt, signedUnits]

theorem roundToInt_mod_two (rm : RoundingMode) (neg : Bool) (m : Nat) (e : Int) :
    roundToInt rm neg m e % 2 = 0 ↔ roundUnit rm neg m e 0 % 2 = 0 := by
  unfold roundToInt
  split <;> omega

/-- `r` is the number `x` rounded to an integer in a mode: less than one away, on the mode's side, and to nearest at most a half
away, at a half the even one (R435). -/
def roundsToInt (rm : RoundingMode) (x : ℚ) (r : Int) : Prop :=
  |(r : ℚ) - x| < 1 ∧ (rm = .towardNegative → (r : ℚ) ≤ x) ∧ (rm = .towardPositive → x ≤ r) ∧
  (rm = .towardZero → |(r : ℚ)| ≤ |x|) ∧ (rm = .nearestEven → |(r : ℚ) - x| ≤ 1 / 2 ∧ (|(r : ℚ) - x| = 1 / 2 → r % 2 = 0))

/-- The model's integer is its operand rounded: the bounds are those of the magnitude, the directed modes' sides follow the
sign. -/
theorem roundsToInt_roundToInt (rm : RoundingMode) (neg : Bool) (m : Nat) (e : Int) {x : ℚ}
    (hx : x = (if neg then -1 else 1) * m * 2 ^ e) : roundsToInt rm x (roundToInt rm neg m e) := by
  have hround := roundsInteger_roundUnit rm neg m e 0
  rw [zpow_zero, div_one] at hround
  have hxR : (x : ℝ) = signedUnits neg 1 (m * 2 ^ e) := by
    subst hx
    cases neg <;> simp [signedUnits]
  have hr := cast_roundToInt rm neg m e
  have hdist : ((|(roundToInt rm neg m e : ℚ) - x| : ℚ) : ℝ) = |(roundUnit rm neg m e 0 : ℝ) - m * 2 ^ e| := by
    push_cast
    rw [hr, hxR, signedUnits_sub, abs_signedUnits neg one_pos, mul_one]
  obtain ⟨hzero, hpos, hneg⟩ := roundsInteger_side one_pos (by positivity) hround
  rw [← hr, ← hxR] at hzero hpos hneg
  refine ⟨?near, fun h => by exact_mod_cast hneg h, fun h => by exact_mod_cast hpos h, fun h => by exact_mod_cast hzero h,
    ?nearest⟩
  case near =>
    rw [← Rat.cast_lt (K := ℝ), hdist, Rat.cast_one]
    exact roundsInteger_abs_sub_lt_one hround
  case nearest =>
    rintro rfl
    have hhalf : ((1 / 2 : ℚ) : ℝ) = 1 / 2 := by norm_num
    refine ⟨?_, fun htie => ?_⟩
    · rw [← Rat.cast_le (K := ℝ), hdist, hhalf, abs_sub_comm]
      exact roundsInteger_abs_le hround
    · rw [roundToInt_mod_two]
      exact roundsInteger_even_of_tie hround (by rw [← hdist, htie, hhalf])

/-- Nothing is lost exactly where the rounded integer is the operand (R370, R435). -/
theorem inexactAt_zero_eq_false_iff (rm : RoundingMode) (neg : Bool) (m : Nat) (e : Int) {x : ℚ}
    (hx : x = (if neg then -1 else 1) * m * 2 ^ e) : inexactAt m e 0 = false ↔ (roundToInt rm neg m e : ℚ) = x := by
  have hmag : inexactAt m e 0 = false ↔ (roundUnit rm neg m e 0 : ℚ) = m * 2 ^ e := by
    rw [inexactAt_eq_false_iff rm neg, zpow_zero, mul_one, ← Rat.cast_inj (α := ℝ)]
    push_cast
    rfl
  rw [hmag, hx, roundToInt]
  cases neg <;> simp

/-! The conversion by the view of its operand. -/

section

variable {f : FpFormat} {rm : RoundingMode} {v : BitVec f.width}

theorem toSint32_eq_none_of_not_fin (h : ¬ ∃ neg m e, view v = .fin neg m e) : toSint32 rm v = none := by
  cases hview : view v with
  | nan => simp [toSint32, hview]
  | inf neg => simp [toSint32, hview]
  | fin neg m e => exact absurd ⟨neg, m, e, hview⟩ h

theorem toSint32_fin {neg : Bool} {m : Nat} {e : Int} (h : view v = .fin neg m e) :
    toSint32 rm v = if -2147483648 ≤ roundToInt rm neg m e ∧ roundToInt rm neg m e ≤ 2147483647 then
      some (BitVec.ofInt 32 (roundToInt rm neg m e), if inexactAt m e 0 then excI else 0) else none := by
  rw [toSint32, h]

/-- The rounded operand is the integer the conversion tests and gives. -/
theorem toSint32_value {neg : Bool} {m : Nat} {e : Int} (h : view v = .fin neg m e) {x : ℚ}
    (hx : x = (if neg then -1 else 1) * m * 2 ^ e) : ∃ r : Int, roundsToInt rm x r ∧
      (-2147483648 ≤ r ∧ r ≤ 2147483647 → toSint32 rm v = some (BitVec.ofInt 32 r, if (r : ℚ) = x then 0 else 0x01)) ∧
      (r < -2147483648 ∨ 2147483647 < r → toSint32 rm v = none) := by
  refine ⟨roundToInt rm neg m e, roundsToInt_roundToInt rm neg m e hx, fun hrange => ?_, fun hrange => ?_⟩
  · rw [toSint32_fin h, if_pos hrange]
    simp only [← inexactAt_zero_eq_false_iff rm neg m e hx]
    cases inexactAt m e 0 <;> rfl
  · rw [toSint32_fin h, if_neg (by omega)]

end

/-! The instructions' result. -/

theorem toWordS_of_some {rm : BitVec 2} {v : Word} {w : Word} {e : BitVec 5}
    (h : toSint32 (f := fp32) (.ofBits rm) v = some (w, e)) : toWordS rm v = ⟨w, e⟩ := by
  rw [toWordS, h]

theorem toWordS_exc_of_none {rm : BitVec 2} {v : Word} (h : toSint32 (f := fp32) (.ofBits rm) v = none) :
    (toWordS rm v).exc = excV := by
  rw [toWordS, h]

theorem toWordD_of_some {rm : BitVec 2} {v : DWord} {w : Word} {e : BitVec 5}
    (h : toSint32 (f := fp64) (.ofBits rm) v = some (w, e)) : toWordD rm v = ⟨w, e⟩ := by
  rw [toWordD, h]

theorem toWordD_exc_of_none {rm : BitVec 2} {v : DWord} (h : toSint32 (f := fp64) (.ofBits rm) v = none) :
    (toWordD rm v).exc = excV := by
  rw [toWordD, h]

/-- Settles O58: the conversion rounds the magnitude to a whole number and puts the sign back, which keeps every distance and
turns the directed modes' sides with it. -/
theorem toWordValue : Obligations.ToWordValue := by
  refine ⟨fun f _ rm v => ⟨?notFinite, ?finite⟩, fun rm v => ⟨fun w e => toWordS_of_some, toWordS_exc_of_none⟩,
    fun rm v => ⟨fun w e => toWordD_of_some, toWordD_exc_of_none⟩⟩
  case notFinite => exact or_iff_not_imp_left.mpr toSint32_eq_none_of_not_fin
  case finite =>
    intro neg m e hview
    obtain ⟨r, ⟨hnear, hdown, hup, hzero, hnearest⟩, hword, hnone⟩ := toSint32_value (rm := rm) hview rfl
    exact ⟨r, hnear, hdown, hup, hzero, hnearest, hword, hnone⟩

end Sys2Proof.Machine

/-! SUPPORT. Exception return, and the privileged instructions away from PLV0 (R480, R498, R540, R545). -/

namespace Sys2Proof.Machine

/-! Fields of a word some of whose bits were replaced (R69). -/

/-- A field that lies outside the mask is kept. -/
theorem extractLsb'_setBits_outside (r v : Word) {mask : Word} {start n : Nat} (hn : start + n ≤ 32)
    (hmask : ∀ k < n, mask.getLsbD (start + k) = false) : (setBits r mask v).extractLsb' start n = r.extractLsb' start n := by
  ext k hk
  rw [BitVec.getElem_extractLsb', BitVec.getElem_extractLsb', getLsbD_setBits _ _ _ (by omega), hmask k hk]
  rfl

/-- CRMD is its level and interrupt enable, its translation mode, and the rest. -/
theorem eq_of_mode_fields {v w : Word} (hlevel : v.extractLsb' 0 3 = w.extractLsb' 0 3)
    (hmode : v.extractLsb' 3 2 = w.extractLsb' 3 2) (hrest : v.extractLsb' 5 27 = w.extractLsb' 5 27) : v = w := by
  have hsplit (u : Word) : u = u.extractLsb' 5 27 ++ u.extractLsb' 3 2 ++ u.extractLsb' 0 3 := by
    refine BitVec.eq_of_getLsbD_eq fun k hk => ?_
    simp only [BitVec.getLsbD_append, BitVec.getLsbD_extractLsb']
    interval_cases k <;> simp
  rw [hsplit v, hsplit w, hlevel, hmode, hrest]

/-! Entry to an exception and return from it (R498, R540). -/

/-- PLV and IE come back from PRMD. -/
theorem returnMode_level (s : State) : (returnMode s).extractLsb' 0 3 = s.csr.prmd.extractLsb' 0 3 := by
  have hrestored := extractLsb'_setBits_of_mask s.csr.crmd s.csr.prmd (mask := 0x07) (start := 0) (n := 3)
    (by decide) (by decide)
  unfold returnMode
  dsimp only
  split
  · rw [extractLsb'_setBits_outside _ _ (by decide) (by decide), hrestored]
  · exact hrestored

/-- After a TLB refill DA becomes 0 and PG 1, else they are kept. -/
theorem returnMode_translation (s : State) :
    (returnMode s).extractLsb' 3 2 = if lastEcode s = 0x3F then 2 else s.csr.crmd.extractLsb' 3 2 := by
  unfold returnMode
  dsimp only
  split
  · exact extractLsb'_setBits_of_mask _ _ (by decide) (by decide)
  · exact extractLsb'_setBits_outside _ _ (by decide) (by decide)

theorem returnMode_rest (s : State) : (returnMode s).extractLsb' 5 27 = s.csr.crmd.extractLsb' 5 27 := by
  have hrestored := extractLsb'_setBits_outside s.csr.crmd s.csr.prmd (mask := 0x07) (start := 5) (n := 27)
    (by decide) (by decide)
  unfold returnMode
  dsimp only
  split
  · rw [extractLsb'_setBits_outside _ _ (by decide) (by decide), hrestored]
  · exact hrestored

/-- What entry leaves of CRMD's upper fields; a TLB refill alone changes the translation mode. -/
theorem entryMode_rest (x : Exc) (crmd : Word) : (entryMode x crmd).extractLsb' 5 27 = crmd.extractLsb' 5 27 := by
  unfold entryMode
  split <;> exact extractLsb'_setBits_outside _ _ (by decide) (by decide)

theorem entryMode_translation {x : Exc} (h : x ≠ .TLBR) (crmd : Word) :
    (entryMode x crmd).extractLsb' 3 2 = crmd.extractLsb' 3 2 := by
  rw [entryMode, if_neg h]
  exact extractLsb'_setBits_outside _ _ (by decide) (by decide)

theorem plv_enter (x : Exc) (va : Word) (s : State) : plv (enter x va s) = 0 := by
  unfold plv
  rw [enter_csr_crmd, entryMode]
  split <;> exact extractLsb'_setBits_of_mask _ _ (by decide) (by decide)

theorem lastEcode_enter (x : Exc) (va : Word) (s : State) : lastEcode (enter x va s) = x.ecode := ecode_entryStatus x _

theorem ecode_eq_tlbr_iff (x : Exc) : x.ecode = 0x3F ↔ x = .TLBR := by
  cases x <;> decide

theorem exec_ertn (s : State) : exec .ertn s = privileged s (.next (exceptionReturn s)) := rfl

/-- Settles O28: ERTN is `exceptionReturn` at PLV0; CRMD field by field. -/
theorem exceptionReturnResult : Obligations.ExceptionReturnResult := by
  intro s
  rw [exec_ertn]
  refine ⟨fun hplv => privileged_elsewhere hplv _, fun hplv => ⟨_, (exec_ertn s).trans (privileged_at_plv0 hplv _), rfl,
    returnMode_level s, returnMode_translation s, returnMode_rest s, ?llbit, ?klo, ?other, rfl⟩⟩
  case llbit =>
    rw [exceptionReturn_llbit]
    cases s.csr.llbctl.getLsbD 2 <;> simp
  case klo =>
    rw [exceptionReturn_csr_llbctl, getLsbD_setBits _ _ _ (by decide)]
    rfl
  case other => exact setBits_and_of_disjoint (by decide) _ _

/-- CRMD after an entry and the return from it: what entry clears comes back from PRMD, the mapped mode after a TLB refill. -/
theorem returnMode_enter {x : Exc} {s : State}
    (hmapped : x = .TLBR → s.csr.crmd.getLsbD 3 = false ∧ s.csr.crmd.getLsbD 4 = true) (va : Word) :
    returnMode (enter x va s) = s.csr.crmd := by
  refine eq_of_mode_fields ?level ?translation ?rest
  case level =>
    rw [returnMode_level, enter_csr_prmd]
    exact extractLsb'_setBits_of_mask _ _ (by decide) (by decide)
  case translation =>
    rw [returnMode_translation, lastEcode_enter, enter_csr_crmd]
    by_cases hx : x = .TLBR
    · obtain ⟨hda, hpg⟩ := hmapped hx
      rw [if_pos ((ecode_eq_tlbr_iff x).mpr hx)]
      refine BitVec.eq_of_getLsbD_eq fun k hk => ?_
      rw [BitVec.getLsbD_extractLsb']
      interval_cases k
      · exact hda.symm
      · exact hpg.symm
    · rw [if_neg (hx ∘ (ecode_eq_tlbr_iff x).mp), entryMode_translation hx]
  case rest => rw [returnMode_rest, enter_csr_crmd, entryMode_rest]

/-- Settles O29: ERA holds the pc, and `returnMode_enter`. -/
theorem enterThenReturn : Obligations.EnterThenReturn :=
  fun _ va _ hmapped => ⟨rfl, returnMode_enter hmapped va, fun _ => rfl, ⟨rfl, rfl, rfl⟩, rfl, rfl⟩

/-! The privileged instructions away from PLV0 (R480, R494, R567). -/

theorem recordsVppn_of_checkPage_raise {k : AccessKind} {e : TlbEntry} {va w : Word} {s : State} {x : Exc}
    (h : checkPage k e va s = .raise x w) : x.recordsVppn = true := by
  unfold checkPage at h
  split_ifs at h <;> obtain ⟨rfl, _⟩ := Access.raise.inj h
  · cases k <;> rfl
  · rfl
  · rfl

theorem recordsVppn_of_tlbTranslate_raise {k : AccessKind} {va w : Word} {s : State} {x : Exc}
    (h : tlbTranslate k va s = .raise x w) : x.recordsVppn = true := by
  unfold tlbTranslate at h
  split at h
  · obtain ⟨rfl, _⟩ := Access.raise.inj h
    rfl
  · exact recordsVppn_of_checkPage_raise h
  · exact nomatch h

/-- Translation raises only the exceptions of the TLB (R160, R540). -/
theorem recordsVppn_of_translate_raise {k : AccessKind} {va w : Word} {s : State} {x : Exc}
    (h : translate k va s = .raise x w) : x.recordsVppn = true := by
  unfold translate at h
  split at h
  · exact nomatch h
  · unfold mappedTranslate at h
    split at h
    · exact recordsVppn_of_tlbTranslate_raise h
    · split_ifs at h
  · exact nomatch h

/-- An exception of the TLB is told from IPE by ESTAT. -/
theorem enter_ne_ipe {x : Exc} (h : x.recordsVppn = true) (va vb : Word) (s : State) : enter x va s ≠ enter .IPE vb s := by
  intro heq
  have hcode : x.ecode = Exc.IPE.ecode := by rw [← lastEcode_enter x va s, heq, lastEcode_enter]
  revert h hcode
  cases x <;> decide

theorem hitClass_iff (code : BitVec 5) : hitClass code = true ↔ code.toNat / 8 = 2 := by
  revert code
  decide

/-- A CACOP of the Hit class goes on, takes an exception of the TLB, or is refused: it takes no IPE (R487). -/
theorem exec_cacop_hit_ne_ipe {code : BitVec 5} (hhit : hitClass code = true) {s : State} (hplv : plv s ≠ 0) (rj : Reg)
    (si12 : BitVec 12) : exec (.cacop code rj si12) s ≠ .next (enter .IPE 0 s) := by
  intro h
  cases hnamed : namedCode code with
  | false =>
    rw [exec_cacop_unnamed hnamed (.inl hhit)] at h
    exact nomatch h
  | true =>
    rw [exec_cacop_hit hnamed hhit] at h
    obtain ⟨t, _, ht⟩ | ⟨x, va, hraise, hx⟩ := finish_next h
    · injection ht with hstate
      have hcsr : (enter .IPE 0 s).csr = s.csr := by
        rw [← hstate, maintain_eq]
        rfl
      refine hplv ?_
      rw [plv, ← hcsr]
      exact plv_enter .IPE 0 s
    · obtain htr | ⟨t, _, htyped⟩ := bind_eq_raise.mp hraise
      · exact enter_ne_ipe (recordsVppn_of_translate_raise htr) va 0 s hx.symm
      · unfold typed at htyped
        split_ifs at htyped

/-- A privileged CACOP. -/
theorem exec_cacop_privileged {code : BitVec 5} (hhit : hitClass code = false) (rj : Reg) (si12 : BitVec 12) (s : State) :
    exec (.cacop code rj si12) s = privileged s (cacheOperation code (address12 rj si12 s) s) := if_neg (by simp [hhit])

theorem exec_invtlb_undefined {op : BitVec 5} (hop : 6 < op.toNat) (rj rk : Reg) (s : State) :
    exec (.invtlb op rj rk) s = .next (enter .INE 0 s) := if_pos hop

theorem exec_invtlb {op : BitVec 5} (hop : op.toNat ≤ 6) (rj rk : Reg) (s : State) :
    exec (.invtlb op rj rk) s = privileged s
      (if 4 ≤ op.toNat ∧ 1024 ≤ (gprGet rj s).toNat then .refused .invtlbOperandBits
        else .next (advance { s with tlb := s.tlb.map (invalidate op ((gprGet rj s).setWidth 10) (gprGet rk s)) })) :=
  if_neg (by omega)

/-- Settles O31: each of the instructions stands behind the privilege check, INVTLB's check of its op before it. -/
theorem privilegedAtUserLevel : Obligations.PrivilegedAtUserLevel := by
  intro s rd rj rk n code op si12 level
  refine ⟨fun hplv => ⟨fun i hi => ?always, fun hcode => ?cacop, fun hcode => ?hit, fun hop => ?invtlb⟩, fun hop => ?ine⟩
  case always =>
    obtain ⟨k, hexec⟩ : ∃ k, exec i s = privileged s k := by fin_cases hi <;> exact ⟨_, rfl⟩
    rw [hexec, privileged_elsewhere hplv]
  case cacop =>
    have hhit : hitClass code = false := by rw [← Bool.not_eq_true, hitClass_iff]; exact hcode
    rw [exec_cacop_privileged hhit, privileged_elsewhere hplv]
  case hit => exact exec_cacop_hit_ne_ipe ((hitClass_iff code).mpr hcode) hplv rj si12
  case invtlb => rw [exec_invtlb hop, privileged_elsewhere hplv]
  case ine => exact exec_invtlb_undefined hop rj rk s

end Sys2Proof.Machine

/-! SUPPORT. Interrupts and waiting (R500, R550, R569, R572, R576, D11). -/

namespace Sys2Proof.Machine

theorem pendingVector_eq (s : State) : pendingVector s = (s.csr.estat &&& s.csr.ecfg).extractLsb' 0 13 :=
  BitVec.setWidth_eq_extractLsb' (by decide)

theorem interruptPending_iff (s : State) : interruptPending s = true ↔ interruptsOn s = true ∧ pendingVector s ≠ 0 := by
  rw [interruptPending, Bool.and_eq_true, bne_iff_ne]

/-- A step in a defined state whose interrupt is taken: INT at the pc, the core no longer waiting (R550, R572). -/
theorem step_takes_interrupt {s : State} (hd : (boundary s).defined) (hpending : interruptPending (boundary s) = true)
    (hnow : (nextInput s).deferInterrupt = false) : step s = .next (enter .INT 0 { boundary s with waiting := false }) := by
  obtain ⟨hlevel, hmode⟩ := hd
  obtain ⟨_, hvector⟩ := (interruptPending_iff _).mp hpending
  have hawake : ¬((boundary s).waiting && pendingVector (boundary s) == 0) = true := by
    rw [Bool.and_eq_true, beq_iff_eq]
    exact fun ⟨_, hnone⟩ => hvector hnone
  rw [step, prepare, corePhase, if_neg (by simp [hlevel]), if_neg (by simp [hmode]), if_neg hawake,
    if_pos (by simp [hpending, hnow])]
  rfl

/-- A step of a core that waits, with no enabled source pending: only its boundary. -/
theorem step_waits {s : State} (hd : (boundary s).defined) (hwaiting : (boundary s).waiting = true)
    (hvector : pendingVector (boundary s) = 0) : step s = .next (boundary s) := by
  obtain ⟨hlevel, hmode⟩ := hd
  rw [step, prepare, corePhase, if_neg (by simp [hlevel]), if_neg (by simp [hmode]), if_pos (by simp [hwaiting, hvector])]
  rfl

/-- The boundary neither stops nor starts the waiting. -/
theorem boundary_waiting (s : State) : (boundary s).waiting = s.waiting := by
  obtain ⟨w, h⟩ := boundary_frame s
  rw [h]

theorem exec_idle (level : BitVec 15) (s : State) :
    exec (.idle level) s = privileged s (.next { advance s with waiting := pendingVector s == 0 }) := rfl

/-- Settles O33: a step by what is pending and whether the core waits; IDLE is one update of the state. -/
theorem interruptAndWaiting : Obligations.InterruptAndWaiting := by
  refine ⟨fun s hd hie hpending hnow => ?taken, fun s level hplv => ?idle, fun s hd hwaiting => ?waiting⟩
  case taken =>
    rw [← pendingVector_eq] at hpending
    exact step_takes_interrupt hd ((interruptPending_iff _).mpr ⟨hie, hpending⟩) hnow
  case idle =>
    rw [exec_idle, privileged_at_plv0 hplv, ← pendingVector_eq]
    refine ⟨fun hnone => ?_, fun hsome => ?_⟩
    · rw [beq_iff_eq.mpr hnone]
      rfl
    · rw [beq_eq_false_iff_ne.mpr hsome]
      rfl
  case waiting =>
    rw [← boundary_waiting] at hwaiting
    rw [← pendingVector_eq]
    refine ⟨fun hnone => step_waits hd hwaiting hnone, fun hsome hnot => step_fetches hd (fun _ => hsome) fun hpending => ?_⟩
    obtain ⟨hie, _⟩ := (interruptPending_iff _).mp hpending
    obtain hoff | hlater := hnot
    · exact absurd hie (ne_true_of_eq_false hoff)
    · exact hlater

end Sys2Proof.Machine

/-! SUPPORT. Exchange with a control and status register, and what writing TCFG, TICLR and LLBCTL does besides (R483, R484,
R501). -/

namespace Sys2Proof.Machine

theorem exec_csrwr (rd : Reg) (n : BitVec 14) (s : State) : exec (.csrwr rd n) s = csrExchange rd n 0xFFFFFFFF s := rfl

theorem exec_csrxchg (rd rj : Reg) (n : BitVec 14) (s : State) :
    exec (.csrxchg rd rj n) s = csrExchange rd n (gprGet rj s) s := rfl

/-- The exchange, but for what the write does to the registers, LLbit and the timer, is a write of `rd`. -/
theorem wroteGpr_csrWrite (rd : Reg) (n : BitVec 14) (v w m : Word) (s : State) : wroteGpr rd v s
    { advance (gprSet rd v (csrWrite n w m s)) with
      csr := s.csr, llbit := s.llbit, timerVal := s.timerVal, timerRun := s.timerRun } := by
  rw [csrWrite_frame n w m s]
  exact wroteGpr_gprSet rd v s

/-- Settles O37: both instructions are `csrExchange`, under their masks. -/
theorem csrExchangeResult : Obligations.CsrExchangeResult := by
  intro s rd rj n q hq
  have hexec : exec q.1 s = csrExchange rd n q.2 s := by
    fin_cases hq
    · exact exec_csrwr rd n s
    · exact exec_csrxchg rd rj n s
  refine ⟨fun hplv => ?elsewhere, fun hplv => ?plv0⟩
  case elsewhere => rw [hexec, csrExchange, privileged_elsewhere hplv]
  case plv0 => exact ⟨_, hexec.trans (privileged_at_plv0 hplv _), rfl, rfl, rfl, rfl, wroteGpr_csrWrite rd n _ _ _ s⟩

/-! Side effects of a write (R501). -/

theorem csrWrite_of_present {n : BitVec 14} {s : State} (h : csrAbsent n s = false) (v m : Word) : csrWrite n v m s =
    csrEffect n v m { s with csr := csrStore n (setBits (csrStored n s.csr) (csrMask n s &&& m) v) s.csr } :=
  if_neg (ne_true_of_eq_false h)

/-- Only TCFG's side effect is on the timer. -/
theorem csrEffect_timer {n : BitVec 14} (h : n ≠ 0x41) (v m : Word) (s : State) :
    (csrEffect n v m s).timerVal = s.timerVal ∧ (csrEffect n v m s).timerRun = s.timerRun := by
  unfold csrEffect
  split
  case h_1 => exact absurd rfl h
  all_goals exact ⟨rfl, rfl⟩

/-- Only LLBCTL's side effect is on LLbit. -/
theorem csrEffect_llbit {n : BitVec 14} (h : n ≠ 0x60) (v m : Word) (s : State) :
    (csrEffect n v m s).llbit = s.llbit := by
  unfold csrEffect
  split
  case h_3 => exact absurd rfl h
  all_goals rfl

theorem csrWrite_timer {n : BitVec 14} (h : n ≠ 0x41) (v m : Word) (s : State) :
    (csrWrite n v m s).timerVal = s.timerVal ∧ (csrWrite n v m s).timerRun = s.timerRun := by
  unfold csrWrite
  split
  · exact ⟨rfl, rfl⟩
  · exact csrEffect_timer h v m _

theorem csrWrite_llbit {n : BitVec 14} (h : n ≠ 0x60) (v m : Word) (s : State) : (csrWrite n v m s).llbit = s.llbit := by
  unfold csrWrite
  split
  · rfl
  · exact csrEffect_llbit h v m _

/-- A started timer counts from InitVal over two zeros (R581). -/
theorem configureTimer_timerVal {s : State} (h : s.csr.tcfg.getLsbD 0 = true) :
    (configureTimer s).timerVal.toNat = s.csr.tcfg.toNat / 4 * 4 := by
  rw [← toNat_and_initVal, configureTimer]
  simp only [h, if_true]

/-- Clearing one bit. -/
theorem setBits_zero (r mask : Word) : setBits r mask 0 = r &&& ~~~mask := by
  exact (congrArg (_ ||| ·) BitVec.zero_and).trans BitVec.or_zero

/-- Settles O38: TCFG's write ends in `configureTimer`, TICLR's stores nothing, LLBCTL's ends with LLbit. -/
theorem csrSideEffects : Obligations.CsrSideEffects := by
  intro s v m hnone
  have hpresent {n : BitVec 14} (h0 : n ≠ 0x180) (h1 : n ≠ 0x181) := csrAbsent_of_none hnone h0 h1
  have htcfg := csrWrite_of_present (hpresent (n := 0x41) (by decide) (by decide)) v m
  have hllbctl := csrWrite_of_present (hpresent (n := 0x60) (by decide) (by decide)) v m
  refine ⟨?run, fun hen => ?start, csrWrite_llbit (by decide) v m s, ?ticlr, ?llbctl, fun n h41 => ?others⟩
  case run =>
    rw [htcfg]
    rfl
  case start =>
    rw [htcfg] at hen ⊢
    exact configureTimer_timerVal hen
  case ticlr =>
    rw [csrWrite_of_present (hpresent (by decide) (by decide)), ← BitVec.getLsbD_and,
      show (0xFFFFF7FF : Word) = ~~~0x800 by decide, ← setBits_zero]
    rfl
  case llbctl =>
    rw [hllbctl, ← BitVec.getLsbD_and]
    rfl
  case others =>
    obtain ⟨hval, hrun⟩ := csrWrite_timer h41 v m s
    exact ⟨hval, hrun, fun h60 => csrWrite_llbit h60 v m s⟩

end Sys2Proof.Machine

/-! SUPPORT. The TLB's maintenance instructions (R490 to R497). -/

namespace Sys2Proof.Machine

/-! TLBIDX.Index (R90, R497). -/

theorem toNat_and_lowMask (w : Word) {n : Nat} (h : n ≤ 32) : (w &&& lowMask n).toNat = w.toNat % 2 ^ n := by
  have hmask : (lowMask n).toNat = 2 ^ n - 1 := by
    have hle : 2 ^ n ≤ 2 ^ 32 := Nat.pow_le_pow_right (by decide) h
    have hpos : 0 < 2 ^ n := Nat.two_pow_pos n
    exact Nat.mod_eq_of_lt (by omega)
  rw [BitVec.toNat_and, hmask, Nat.and_two_pow_sub_one_eq_mod]

theorem tlbIndex_eq {s : State} (hN : s.cfg.tlbidxN ≤ 16) : tlbIndex s = s.csr.tlbidx.toNat % 2 ^ s.cfg.tlbidxN :=
  toNat_and_lowMask _ (by omega)

/-! Writing an entry (R492, R493, R495). -/

theorem supportedPage_iff (ps : BitVec 6) : supportedPage ps = true ↔ ps = 12 ∨ ps = 21 := by
  rw [supportedPage, Bool.or_eq_true, beq_iff_eq, beq_iff_eq]

/-- An entry that is empty or of a page size LA32R has is written. -/
theorem tlbWriteAt_of_supported {s : State} (h : (newEntry s).e = false ∨ (newEntry s).ps = 12 ∨ (newEntry s).ps = 21)
    (i : Nat) : tlbWriteAt i s = .next { s with pc := s.pc + 4, tlb := s.tlb.set i (newEntry s) } := by
  rw [← supportedPage_iff] at h
  refine if_neg ?_
  obtain hempty | hpage := h
  · simp [hempty]
  · simp [hpage]

theorem tlbWriteAt_of_unsupported {s : State} (he : (newEntry s).e = true) (h12 : (newEntry s).ps ≠ 12)
    (h21 : (newEntry s).ps ≠ 21) (i : Nat) : tlbWriteAt i s = .refused .unsupportedPageSize := by
  have hpage : supportedPage (newEntry s).ps = false := by
    rw [← Bool.not_eq_true, supportedPage_iff]
    exact not_or.mpr ⟨h12, h21⟩
  exact if_pos (by rw [he, hpage]; rfl)

theorem exec_tlbwr {s : State} (hplv : plv s = 0) (h : tlbIndex s < s.tlb.length) :
    exec .tlbwr s = tlbWriteAt (tlbIndex s) s := (privileged_at_plv0 hplv _).trans (if_pos h)

theorem exec_tlbwr_outside {s : State} (hplv : plv s = 0) (h : s.tlb.length ≤ tlbIndex s) :
    exec .tlbwr s = .refused .tlbIndexOutOfRange := (privileged_at_plv0 hplv _).trans (if_neg (by omega))

theorem exec_tlbfill {s : State} (hplv : plv s = 0) :
    exec .tlbfill s = tlbWriteAt (Config.freeTlbIndex s.draws % s.tlb.length) s := privileged_at_plv0 hplv _

/-! Reading an entry (R491, R493; log 32). -/

theorem exec_tlbrd {s : State} {e : TlbEntry} (hplv : plv s = 0) (h : s.tlb[tlbIndex s]? = some e) :
    exec .tlbrd s = .next (advance { s with csr := if e.e then readEntry e s else readEmpty s }) := by
  refine (privileged_at_plv0 hplv _).trans ?_
  rw [h]

theorem exec_tlbrd_outside {s : State} (hplv : plv s = 0) (h : s.tlb.length ≤ tlbIndex s) :
    exec .tlbrd s = .refused .tlbIndexOutOfRange := by
  refine (privileged_at_plv0 hplv _).trans ?_
  rw [List.getElem?_eq_none h]

/-- The bits of VPPN that translation does not ignore are the entry's. -/
theorem readVppn_high (e : TlbEntry) (s : State) : (readVppn e s).extractLsb' 9 10 = e.vppn.extractLsb' 9 10 := by
  unfold readVppn
  split
  · exact (extract_of_hi _ _ 0 10 rfl).trans (extract_all _)
  · rfl

/-- TLBEHI holds VPPN over thirteen zeros (R92). -/
theorem vppnAddress_fields (v : BitVec 19) : (vppnAddress v).extractLsb' 0 13 = 0 ∧
    (vppnAddress v).extractLsb' 22 10 = v.extractLsb' 9 10 ∧ (vppnAddress v).extractLsb' 13 19 = v :=
  ⟨(extract_of_lo v 0 0 13 (by decide)).trans (extract_all _), extract_of_hi v (0 : BitVec 13) 9 10 rfl,
    (extract_of_hi v (0 : BitVec 13) 0 19 rfl).trans (extract_all v)⟩

/-- TLBELO0 and TLBELO1 hold a page's fields and G, each in its place (R93). -/
theorem getLsbD_eloOfPage (p : TlbPage) (g : Bool) (k : Nat) : (eloOfPage p g).getLsbD k =
    if k < 1 then p.v else if k < 2 then p.d else if k < 4 then p.plv.getLsbD (k - 2)
    else if k < 6 then p.mat.getLsbD (k - 4) else if k < 7 then g else if k < 8 then false else p.ppn.getLsbD (k - 8) := by
  change BitVec.getLsbD (w := 24 + 1 + 1 + 2 + 2 + 1 + 1) _ k = _
  unfold eloOfPage
  simp only [BitVec.getLsbD_append, BitVec.getLsbD_ofBool, Nat.sub_sub]
  grind

theorem eloOfPage_plv (p : TlbPage) (g : Bool) : (eloOfPage p g).extractLsb' 2 2 = p.plv := by
  refine BitVec.eq_of_getLsbD_eq fun k hk => ?_
  rw [BitVec.getLsbD_extractLsb', getLsbD_eloOfPage]
  interval_cases k <;> rfl

theorem eloOfPage_mat (p : TlbPage) (g : Bool) : (eloOfPage p g).extractLsb' 4 2 = p.mat := by
  refine BitVec.eq_of_getLsbD_eq fun k hk => ?_
  rw [BitVec.getLsbD_extractLsb', getLsbD_eloOfPage]
  interval_cases k <;> rfl

theorem eloOfPage_ppn (p : TlbPage) (g : Bool) (k : Nat) : (eloOfPage p g).getLsbD (8 + k) = p.ppn.getLsbD k := by
  rw [getLsbD_eloOfPage]
  repeat rw [if_neg (by omega)]
  rw [Nat.add_sub_cancel_left]

/-! The bits TLBELO0 and TLBELO1 have (R93). -/

/-- A field below G and PPN is the register's own. -/
theorem getLsbD_and_elo {k : Nat} {s : State} (hk : k < 7 ∨ 8 ≤ k ∧ k + 4 < s.cfg.palen) (h32 : k < 32) (w : Word) :
    (w &&& csrMask 0x12 s).getLsbD k = w.getLsbD k := by
  rw [BitVec.getLsbD_and, getLsbD_csrMask_tlbelo0 s h32, decide_eq_true hk, Bool.and_true]

theorem getLsbD_and_elo_reserved {k : Nat} {s : State} (hk : k = 7 ∨ 8 ≤ k ∧ s.cfg.palen ≤ k + 4) (h32 : k < 32)
    (w : Word) : (w &&& csrMask 0x12 s).getLsbD k = false := by
  rw [BitVec.getLsbD_and, getLsbD_csrMask_tlbelo0 s h32, decide_eq_false (by omega), Bool.and_false]

theorem extractLsb'_and_elo {start n : Nat} (h : start + n ≤ 7) (s : State) (w : Word) :
    (w &&& csrMask 0x12 s).extractLsb' start n = w.extractLsb' start n := by
  refine BitVec.eq_of_getLsbD_eq fun k hk => ?_
  rw [BitVec.getLsbD_extractLsb', BitVec.getLsbD_extractLsb', getLsbD_and_elo (by omega) (by omega)]

/-- What TLBRD leaves in TLBELO0 or TLBELO1 of a page of entry `e`: its fields, the page number cut to PALEN bits; nothing is said
of the bits of it that translation ignores. -/
def HoldsPage (palen : Nat) (e : TlbEntry) (p : TlbPage) (w : Word) : Prop :=
  w.getLsbD 0 = p.v ∧ w.getLsbD 1 = p.d ∧ w.extractLsb' 2 2 = p.plv ∧ w.extractLsb' 4 2 = p.mat ∧ w.getLsbD 6 = e.g ∧
  w.getLsbD 7 = false ∧ ∀ k, k < 24 → (palen ≤ k + 12 → w.getLsbD (8 + k) = false) ∧
    (k + 12 < palen → e.ps ≠ 21 ∨ 9 ≤ k → w.getLsbD (8 + k) = p.ppn.getLsbD k)

/-- The bits of a page number that translation does not ignore are the page's. -/
theorem getLsbD_readPage_ppn {e : TlbEntry} {k : Nat} (hk : k < 24) (h : e.ps ≠ 21 ∨ 9 ≤ k) (p : TlbPage)
    (free : BitVec 9) : (readPage e p free).ppn.getLsbD k = p.ppn.getLsbD k := by
  unfold readPage
  split
  · have h9 : 9 ≤ k := h.resolve_left (not_not_intro ‹_›)
    rw [BitVec.getLsbD_append, if_neg (by omega), BitVec.getLsbD_extractLsb', decide_eq_true (by omega), Bool.true_and,
      Nat.add_sub_cancel' h9]
  · rfl

/-- A page as TLBRD delivers it differs from the entry's in its page number alone. -/
theorem readPage_frame (e : TlbEntry) (p : TlbPage) (free : BitVec 9) :
    readPage e p free = { p with ppn := (readPage e p free).ppn } := by
  unfold readPage
  split <;> rfl

theorem holdsPage_readPage (e : TlbEntry) (p : TlbPage) (free : BitVec 9) (s : State) :
    HoldsPage s.cfg.palen e p (eloOfPage (readPage e p free) e.g &&& csrMask 0x12 s) := by
  have hppn {k : Nat} := getLsbD_readPage_ppn (e := e) (k := k) (p := p) (free := free)
  rw [readPage_frame]
  generalize (readPage e p free).ppn = ppn at hppn
  refine ⟨?v, ?d, ?plv, ?mat, ?g, getLsbD_and_elo_reserved (by omega) (by omega) _,
    fun k hk => ⟨fun hpalen => getLsbD_and_elo_reserved (by omega) (by omega) _, fun hpalen hkept => ?ppn⟩⟩
  case v | d | g => rw [getLsbD_and_elo (by omega) (by omega), getLsbD_eloOfPage]; rfl
  case plv => rw [extractLsb'_and_elo (by omega), eloOfPage_plv]
  case mat => rw [extractLsb'_and_elo (by omega), eloOfPage_mat]
  case ppn => rw [getLsbD_and_elo (by omega) (by omega), eloOfPage_ppn, hppn hk hkept]

/-! TLBIDX after TLBRD (R491). -/

/-- Only PS and NE are written. -/
theorem tlbidx_of_read (r v : Word) : (setBits r 0xBF000000 v).extractLsb' 0 24 = r.extractLsb' 0 24 ∧
    (setBits r 0xBF000000 v).getLsbD 31 = v.getLsbD 31 ∧
    (setBits r 0xBF000000 v).extractLsb' 24 6 = v.extractLsb' 24 6 :=
  ⟨extractLsb'_setBits_outside _ _ (by decide) (by decide), getLsbD_setBits _ _ _ (by decide),
    extractLsb'_setBits_of_mask _ _ (by decide) (by decide)⟩

theorem pageSize_field (ps : BitVec 6) : (ps.setWidth 32 <<< 24 : Word).getLsbD 31 = false ∧
    (ps.setWidth 32 <<< 24 : Word).extractLsb' 24 6 = ps := by
  revert ps
  decide

/-- Settles O40: what is written is `newEntry`; what is read is `readEntry` or `readEmpty`, register by register. -/
theorem tlbWriteAndReadResult : Obligations.TlbWriteAndReadResult := by
  refine ⟨fun s e hplv hN he => ?write, fun s hplv hN => ?read⟩
  case write =>
    obtain rfl : e = newEntry s := he
    rw [← tlbIndex_eq hN, exec_tlbfill hplv]
    refine ⟨fun hpage => ⟨fun hin => ?_, fun hnone => ?_, fun hsome => ?_⟩, fun hused h12 h21 => ⟨?_, fun hin => ?_⟩,
      exec_tlbwr_outside hplv⟩
    · rw [exec_tlbwr hplv hin, tlbWriteAt_of_supported hpage]
    · rw [tlbWriteAt_of_supported hpage, hnone, List.set_nil, ← hnone]
    · exact ⟨_, Nat.mod_lt _ (List.length_pos_iff.mpr hsome), tlbWriteAt_of_supported hpage _⟩
    · exact tlbWriteAt_of_unsupported hused h12 h21 _
    · rw [exec_tlbwr hplv hin, tlbWriteAt_of_unsupported hused h12 h21]
  case read =>
    rw [← tlbIndex_eq hN]
    refine ⟨fun e he => ⟨_, exec_tlbrd hplv he, ?_⟩, exec_tlbrd_outside hplv⟩
    cases hused : e.e with
    | false =>
      obtain ⟨hlow, hne, hps⟩ := tlbidx_of_read s.csr.tlbidx 0x80000000
      exact ⟨rfl, hlow, hne, fun _ => ⟨hps, rfl, rfl, rfl, rfl⟩, nofun⟩
    | true =>
      obtain ⟨hlow, hne, hps⟩ := tlbidx_of_read s.csr.tlbidx (e.ps.setWidth 32 <<< 24)
      obtain ⟨hbit, hfield⟩ := pageSize_field e.ps
      obtain ⟨hzero, hhigh, hvppn⟩ := vppnAddress_fields (readVppn e s)
      refine ⟨rfl, hlow, hne.trans hbit, nofun, fun _ => ⟨hps.trans hfield, rfl, hzero, hhigh.trans (readVppn_high e s),
        fun h21 => hvppn.trans (if_neg h21), fun q hq => ?_⟩⟩
      fin_cases hq
      · exact holdsPage_readPage e e.page0 _ s
      · exact holdsPage_readPage e e.page1 _ s

end Sys2Proof.Machine

/-! SUPPORT. Searching the TLB and clearing its entries (R490, R494, R496, D22, D39). -/

namespace Sys2Proof.Machine

/-! The indices that match (R490). -/

/-- Whether an entry matches the page pair in TLBEHI under the current ASID. -/
def matchesTlbehi (s : State) (e : TlbEntry) : Bool := tlbMatch e (currentAsid s) (s.csr.tlbehi &&& 0xFFFFE000)

theorem mem_searchHits {i : Nat} {s : State} : i ∈ searchHits s ↔ ∃ e, s.tlb[i]? = some e ∧ matchesTlbehi s e = true := by
  rw [searchHits, List.mem_filter, List.mem_range]
  by_cases hi : i < s.tlb.length
  · simp [hi, matchesTlbehi]
  · simp [hi]

theorem searchHits_eq_nil {s : State} (h : ∀ e ∈ s.tlb, matchesTlbehi s e = false) : searchHits s = [] := by
  refine List.eq_nil_iff_forall_not_mem.mpr fun i hi => ?_
  obtain ⟨e, he, hmatch⟩ := mem_searchHits.mp hi
  exact ne_true_of_eq_false (h e (List.mem_of_getElem? he)) hmatch

theorem searchHits_eq_singleton {i : Nat} {s : State} {e : TlbEntry} (he : s.tlb[i]? = some e)
    (hmatch : matchesTlbehi s e = true)
    (hothers : ∀ (j : Nat) (f : TlbEntry), j ≠ i → s.tlb[j]? = some f → matchesTlbehi s f = false) :
    searchHits s = [i] := by
  have hmem (j : Nat) : j ∈ searchHits s ↔ j ∈ [i] := by
    rw [List.mem_singleton, mem_searchHits]
    constructor
    · rintro ⟨f, hf, hfmatch⟩
      by_contra hne
      exact ne_true_of_eq_false (hothers j f hne hf) hfmatch
    · rintro rfl
      exact ⟨e, he, hmatch⟩
  exact List.perm_singleton.mp
    ((List.perm_ext_iff_of_nodup (List.nodup_range.filter _) (List.nodup_singleton i)).mpr hmem)

/-! TLBIDX after a search (R490). -/

theorem getLsbD_lowMask_eq_false {n k : Nat} (h : n ≤ k) : (lowMask n).getLsbD k = false := by
  rw [getLsbD_lowMask, decide_eq_false (by omega : ¬k < n), Bool.and_false]

/-- A hit clears NE, keeps what is between Index and NE, and has the index in Index. -/
theorem searchedIndex_fields {i : Nat} {s : State} (hN : s.cfg.tlbidxN ≤ 16) (hi : i < 2 ^ s.cfg.tlbidxN) :
    (searchedIndex i s).getLsbD 31 = false ∧ (searchedIndex i s).toNat % 2 ^ s.cfg.tlbidxN = i ∧
    (searchedIndex i s).extractLsb' 16 15 = s.csr.tlbidx.extractLsb' 16 15 := by
  have hhigh : ∀ k < 15, (0x80000000 : Word).getLsbD (16 + k) = false := by decide
  refine ⟨?ne, ?index, extractLsb'_setBits_outside _ _ (by decide) fun k hk => ?_⟩
  case ne =>
    rw [searchedIndex, getLsbD_setBits _ _ _ (by decide), BitVec.getLsbD_or, BitVec.getLsbD_and,
      getLsbD_lowMask_eq_false (by omega), Bool.and_false]
    rfl
  case index =>
    have hindex : searchedIndex i s &&& lowMask s.cfg.tlbidxN = BitVec.ofNat 32 i &&& lowMask s.cfg.tlbidxN := by
      refine BitVec.eq_of_getLsbD_eq fun k hk => ?_
      rw [BitVec.getLsbD_and, BitVec.getLsbD_and, searchedIndex, getLsbD_setBits _ _ _ hk, BitVec.getLsbD_or,
        BitVec.getLsbD_and]
      cases (lowMask s.cfg.tlbidxN).getLsbD k <;> simp
    have hword : i < 2 ^ 32 := hi.trans_le (Nat.pow_le_pow_right (by decide) (by omega))
    rw [← toNat_and_lowMask _ (by omega), hindex, toNat_and_lowMask _ (by omega), BitVec.toNat_ofNat,
      Nat.mod_eq_of_lt hword, Nat.mod_eq_of_lt hi]
  · rw [BitVec.getLsbD_or, hhigh k hk, getLsbD_lowMask_eq_false (by omega), Bool.false_or]

/-! TLBSRCH. -/

theorem exec_tlbsrch_none {s : State} (hplv : plv s = 0) (h : searchHits s = []) :
    exec .tlbsrch s = .next { s with pc := s.pc + 4, csr := { s.csr with tlbidx := s.csr.tlbidx ||| 0x80000000 } } := by
  refine (privileged_at_plv0 hplv _).trans ?_
  rw [h, setBits_self_mask]
  rfl

theorem exec_tlbsrch_one {i : Nat} {s : State} (hplv : plv s = 0) (h : searchHits s = [i]) :
    exec .tlbsrch s = .next { s with pc := s.pc + 4, csr := { s.csr with tlbidx := searchedIndex i s } } := by
  refine (privileged_at_plv0 hplv _).trans ?_
  rw [h]
  rfl

theorem exec_tlbsrch_several {i j : Nat} {s : State} (hplv : plv s = 0) (hi : i ∈ searchHits s) (hj : j ∈ searchHits s)
    (hne : j ≠ i) : exec .tlbsrch s = .refused .multipleTlbHit := by
  refine (privileged_at_plv0 hplv _).trans ?_
  match h : searchHits s with
  | [] => simp [h] at hi
  | [k] =>
    rw [h, List.mem_singleton] at hi hj
    exact absurd (hj.trans hi.symm) hne
  | _ :: _ :: _ => rfl

/-- Settles O41: by the indices that match. -/
theorem tlbSearchResult : Obligations.TlbSearchResult := by
  intro s hplv hN hlen
  refine ⟨fun hnone => exec_tlbsrch_none hplv (searchHits_eq_nil hnone),
    fun i e he hmatch => ⟨fun hothers => ?one, fun j f hne hf hfmatch => ?several⟩⟩
  case one =>
    obtain ⟨hi, _⟩ := List.getElem?_eq_some_iff.mp he
    exact ⟨_, exec_tlbsrch_one hplv (searchHits_eq_singleton he hmatch hothers), rfl,
      searchedIndex_fields hN (hi.trans_le hlen)⟩
  case several =>
    exact exec_tlbsrch_several hplv (mem_searchHits.mpr ⟨e, he, hmatch⟩) (mem_searchHits.mpr ⟨f, hf, hfmatch⟩) hne

/-! INVTLB (R494, R496). -/

/-- ASID against a word that has only ASID bits. -/
theorem asid_beq_iff {v : Word} (h : v.toNat < 1024) (asid : BitVec 10) :
    (asid == v.setWidth 10) = true ↔ asid.toNat = v.toNat := by
  rw [beq_iff_eq, BitVec.toNat_eq, BitVec.toNat_setWidth, Nat.mod_eq_of_lt h]

/-- The page pair an entry holds is that of an address (D39). -/
theorem samePagePair_vppn_iff (e : TlbEntry) (va : Word) : samePagePair e.ps (vppnAddress e.vppn) va = true ↔
    va.toNat / 2 ^ (e.ps.toNat + 1) = e.vppn.toNat * 2 ^ 13 / 2 ^ (e.ps.toNat + 1) := by
  rw [samePagePair_iff, toNat_vppnAddress, eq_comm]

/-- The entries each op selects (R496). -/
theorem invSelects_iff {op : BitVec 5} {rj : Word} (hop : op.toNat ≤ 6) (hrj : op.toNat < 4 ∨ rj.toNat < 1024) (va : Word)
    (e : TlbEntry) : invSelects op e (rj.setWidth 10) va = true ↔
      op = 0 ∨ op = 1 ∨ (op = 2 ∧ e.g = true) ∨ (op = 3 ∧ e.g = false) ∨
      (op = 4 ∧ e.g = false ∧ e.asid.toNat = rj.toNat) ∨
      (op = 5 ∧ e.g = false ∧ e.asid.toNat = rj.toNat ∧
        va.toNat / 2 ^ (e.ps.toNat + 1) = e.vppn.toNat * 2 ^ 13 / 2 ^ (e.ps.toNat + 1)) ∨
      (op = 6 ∧ (e.g = true ∨ e.asid.toNat = rj.toNat) ∧
        va.toNat / 2 ^ (e.ps.toNat + 1) = e.vppn.toNat * 2 ^ 13 / 2 ^ (e.ps.toNat + 1)) := by
  have hasid (h4 : ¬op.toNat < 4) := asid_beq_iff (hrj.resolve_left h4) e.asid
  rw [← samePagePair_vppn_iff]
  have hcases : op ∈ [(0 : BitVec 5), 1, 2, 3, 4, 5, 6] := by
    revert hop
    clear hrj hasid
    revert op
    decide
  fin_cases hcases
  · simp [invSelects]
  · simp [invSelects]
  · simp [invSelects]
  · simp [invSelects]
  · simp [invSelects, ← hasid (by decide)]
  · simp [invSelects, ← hasid (by decide), and_assoc]
  · simp [invSelects, ← hasid (by decide)]

/-- Settles O42: INVTLB maps `invalidate` over the TLB, which selects as `invSelects_iff` says. -/
theorem tlbInvalidateResult : Obligations.TlbInvalidateResult := by
  intro s op rj rk hplv hop
  rw [exec_invtlb hop, privileged_at_plv0 hplv]
  refine ⟨fun hrj => ?cleared, fun h4 hrj => if_pos ⟨h4, hrj⟩⟩
  case cleared =>
    rw [if_neg (by omega)]
    refine congrArg (fun l => (.next { s with pc := s.pc + 4, tlb := l } : Result)) (List.map_congr_left fun e _ => ?_)
    exact if_congr (invSelects_iff hop hrj (gprGet rk s) e) rfl rfl

end Sys2Proof.Machine

/-! SUPPORT. Taking an exception (R530, R540, R541, R542): the fields written, the address recorded, and where the handler
starts. -/

namespace Sys2Proof.Machine

/-! The fields of PRMD, CRMD and ESTAT after entry. -/

/-- PLV and IE are saved. -/
theorem enter_prmd_level (x : Exc) (va : Word) (s : State) :
    (enter x va s).csr.prmd.extractLsb' 0 3 = s.csr.crmd.extractLsb' 0 3 :=
  extractLsb'_setBits_of_mask _ _ (by decide) (by decide)

theorem enter_prmd_rest (x : Exc) (va : Word) (s : State) :
    (enter x va s).csr.prmd.extractLsb' 3 29 = s.csr.prmd.extractLsb' 3 29 :=
  extractLsb'_setBits_outside _ _ (by decide) (by decide)

/-- PLV and IE are cleared, for a TLB refill too. -/
theorem entryMode_level (x : Exc) (crmd : Word) : (entryMode x crmd).extractLsb' 0 3 = 0 := by
  unfold entryMode
  split <;> exact extractLsb'_setBits_of_mask _ _ (by decide) (by decide)

/-- A TLB refill goes on in direct translation, DA = 1 and PG = 0; any other exception keeps the mode (R541). -/
theorem entryMode_translation_eq (x : Exc) (crmd : Word) :
    (entryMode x crmd).extractLsb' 3 2 = if x = .TLBR then 1 else crmd.extractLsb' 3 2 := by
  split
  case isTrue hx =>
    rw [entryMode, if_pos hx]
    exact extractLsb'_setBits_of_mask _ _ (by decide) (by decide)
  case isFalse hx => exact entryMode_translation hx crmd

/-- The EsubCode field of ESTAT after entry. -/
theorem esubcode_entryStatus (x : Exc) (estat : Word) : (entryStatus x estat).extractLsb' 22 9 = x.esubcode := by
  rw [entryStatus, extractLsb'_setBits_of_mask _ _ (by decide) (by decide)]
  exact (extract_of_hi _ (0 : BitVec 16) 6 9 rfl).trans ((extract_of_hi _ x.ecode 0 9 rfl).trans
    ((extract_of_lo _ x.esubcode 0 9 (by decide)).trans (extract_all x.esubcode)))

/-- IS and the bits around it are kept (R569). -/
theorem entryStatus_low (x : Exc) (estat : Word) : (entryStatus x estat).extractLsb' 0 16 = estat.extractLsb' 0 16 :=
  extractLsb'_setBits_outside _ _ (by decide) (by decide)

theorem entryStatus_top (x : Exc) (estat : Word) : (entryStatus x estat).getLsbD 31 = estat.getLsbD 31 :=
  getLsbD_setBits _ _ _ (by decide)

/-! Which exceptions record the address (R76, R92, R540), and where the handler is (R542). -/

theorem recordsVppn_iff (x : Exc) : x.recordsVppn = true ↔ x ∈ [Exc.TLBR, .PIL, .PIS, .PIF, .PME, .PPI] := by
  cases x <;> decide

theorem recordsBadv_iff (x : Exc) :
    x.recordsBadv = true ↔ x ∈ [Exc.TLBR, .ADEF, .ALE, .PIL, .PIS, .PIF, .PME, .PPI] := by
  cases x <;> decide

theorem enter_badv (x : Exc) (va : Word) (s : State) : (enter x va s).csr.badv =
    if x ∈ [Exc.TLBR, .ADEF, .ALE, .PIL, .PIS, .PIF, .PME, .PPI] then va else s.csr.badv :=
  if_congr (recordsBadv_iff x) rfl rfl

/-- Below VPPN, TLBEHI keeps its bits. -/
theorem enter_tlbehi_low (x : Exc) (va : Word) (s : State) :
    (enter x va s).csr.tlbehi.extractLsb' 0 13 = s.csr.tlbehi.extractLsb' 0 13 := by
  rw [enter_csr_tlbehi]
  split
  · exact extractLsb'_setBits_outside _ _ (by decide) (by decide)
  · rfl

theorem enter_tlbehi_vppn (x : Exc) (va : Word) (s : State) : (enter x va s).csr.tlbehi.extractLsb' 13 19 =
    if x ∈ [Exc.TLBR, .PIL, .PIS, .PIF, .PME, .PPI] then va.extractLsb' 13 19 else s.csr.tlbehi.extractLsb' 13 19 := by
  rw [enter_csr_tlbehi, apply_ite (BitVec.extractLsb' 13 19), extractLsb'_setBits_of_mask _ _ (by decide) (by decide)]
  exact if_congr (recordsVppn_iff x) rfl rfl

theorem entryAddress_low (x : Exc) (s : State) : (entryAddress x s).extractLsb' 0 6 = 0 := by
  rw [entryAddress, BitVec.extractLsb'_and]
  exact BitVec.and_zero

theorem entryAddress_high (x : Exc) (s : State) : (entryAddress x s).extractLsb' 6 26 =
    (if x = .TLBR then s.csr.tlbrentry else s.csr.eentry).extractLsb' 6 26 := by
  rw [entryAddress, BitVec.extractLsb'_and]
  exact BitVec.and_allOnes

/-- Settles O27: `enter` field by field. -/
theorem exceptionEntry : Obligations.ExceptionEntry := by
  refine ⟨rfl, ?fields⟩
  rintro x va s _ rfl
  exact ⟨enter_prmd_level x va s, enter_prmd_rest x va s, entryMode_level x _, entryMode_rest x _,
    entryMode_translation_eq x _, rfl, ecode_entryStatus x _, esubcode_entryStatus x _, entryStatus_low x _,
    entryStatus_top x _, enter_badv x va s, enter_tlbehi_low x va s, enter_tlbehi_vppn x va s, entryAddress_low x s,
    entryAddress_high x s, rfl⟩

end Sys2Proof.Machine

/-! SUPPORT. What an instruction away from PLV0 can do to the control and status registers and the TLB (R480, R521, R522, R540):
one lemma for each shared operation, one for the instructions. -/

namespace Sys2Proof.Machine

/-- From `s` to `t` the control and status registers and the TLB stay, or change by an exception alone: one taken in `s` itself,
or FPE, which the status procedure takes with Cause written (R366). -/
inductive SystemGuarded (s : State) : State → Prop
  | kept {t : State} (hcsr : t.csr = s.csr) (htlb : t.tlb = s.tlb) : SystemGuarded s t
  | entered (x : Exc) (va : Word) : SystemGuarded s (enter x va s)
  | trapped (e : BitVec 5) : SystemGuarded s (enter .FPE 0 (setFpCause e s))

/-- Where the meaning goes on, it leaves the system to exceptions. -/
def GuardsSystem (s : State) (r : Result) : Prop := ∀ t, r = .next t → SystemGuarded s t

/-! The shared operations. -/

theorem guardsSystem_next {s t : State} (hcsr : t.csr = s.csr) (htlb : t.tlb = s.tlb) : GuardsSystem s (.next t) := by
  rintro _ ⟨⟩
  exact .kept hcsr htlb

theorem guardsSystem_trap (x : Exc) (s : State) : GuardsSystem s (trap x s) := by
  rintro _ ⟨⟩
  exact .entered x 0

theorem guardsSystem_refused (s : State) (r : Refusal) : GuardsSystem s (.refused r) := by
  rintro _ ⟨⟩

theorem guardsSystem_branchIf (c : Bool) (offset : Word) (s : State) : GuardsSystem s (branchIf c offset s) := by
  unfold branchIf
  split <;> exact guardsSystem_next rfl rfl

theorem guardsSystem_finish {α : Type} {c : Access α} {s : State} {k : α → Result}
    (h : ∀ a, c = .ok a → GuardsSystem s (k a)) : GuardsSystem s (c.finish s k) := by
  intro t ht
  obtain ⟨a, hok, hk⟩ | ⟨x, va, _, rfl⟩ := finish_next ht
  · exact h a hok t hk
  · exact .entered x va

/-- Away from PLV0 what stands behind the privilege check does not run: IPE is taken, whatever it is. -/
theorem guardsSystem_privileged {s : State} (hplv : plv s ≠ 0) (k : Result) : GuardsSystem s (privileged s k) := by
  rw [privileged_elsewhere hplv]
  exact guardsSystem_trap .IPE s

theorem guardsSystem_floating {double : Bool} {s : State} {k : Result} (h : GuardsSystem s k) :
    GuardsSystem s (floating double s k) := by
  intro t ht
  obtain ⟨_, hk⟩ | rfl | rfl := floating_next ht
  · exact h t hk
  · exact .entered .INE 0
  · exact .entered .FPD 0

/-- The status procedure, where the result it delivers goes to no control and status register and not to the TLB. -/
theorem guardsSystem_fpCommit (e : BitVec 5) (s : State) {write : State → State} (hcsr : ∀ u, (write u).csr = u.csr)
    (htlb : ∀ u, (write u).tlb = u.tlb) : GuardsSystem s (fpCommit e s write) := by
  intro t ht
  obtain ⟨_, rfl⟩ | ⟨_, rfl⟩ := fpCommit_next ht
  · exact .kept (hcsr _) (htlb _)
  · exact .trapped e

theorem guardsSystem_commitS (fd : FReg) (r : FpResult fp32.width) (s : State) : GuardsSystem s (commitS fd r s) :=
  guardsSystem_fpCommit r.exc s (fun _ => rfl) fun _ => rfl

theorem guardsSystem_commitD (fd : FReg) (r : FpResult fp64.width) (s : State) : GuardsSystem s (commitD fd r s) :=
  guardsSystem_fpCommit r.exc s (fun _ => rfl) fun _ => rfl

theorem guardsSystem_commitFlag (cd : CFlag) (cond : BitVec 5) {f : FpFormat} (x y : BitVec f.width) (s : State) :
    GuardsSystem s (commitFlag cd cond x y s) :=
  guardsSystem_fpCommit _ s (fun _ => rfl) fun _ => rfl

theorem guardsSystem_loadThen (n : Nat) (va : Word) (s : State) {deliver : DWord → State → State}
    (hcsr : ∀ v u, (deliver v u).csr = u.csr) (htlb : ∀ v u, (deliver v u).tlb = u.tlb) :
    GuardsSystem s (loadThen n va s deliver) :=
  guardsSystem_finish fun _ _ => guardsSystem_next (hcsr _ _) (htlb _ _)

theorem guardsSystem_loadInto (n : Nat) (extend : DWord → Word) (rd : Reg) (va : Word) (s : State) :
    GuardsSystem s (loadInto n extend rd va s) :=
  guardsSystem_loadThen n va s (fun _ _ => rfl) fun _ _ => rfl

/-- A store goes to memory, the older words and the devices. -/
theorem storeAt_keeps_system {p : Place} {n : Nat} {v : DWord} {s t : State} (h : storeAt p n v s = .ok t) :
    t.csr = s.csr ∧ t.tlb = s.tlb := by
  obtain ⟨_, rfl⟩ | ⟨_, rfl⟩ := storeAt_ok h <;> exact ⟨rfl, rfl⟩

theorem guardsSystem_storeThen (n : Nat) (v : DWord) (va : Word) (s : State) : GuardsSystem s (storeThen n v va s) := by
  intro t ht
  obtain ⟨p, u, _, hstore, rfl⟩ | ⟨x, w, _, rfl⟩ := storeThen_next ht
  · obtain ⟨hcsr, htlb⟩ := storeAt_keeps_system hstore
    exact .kept hcsr htlb
  · exact .entered x w

/-! The meanings that are their instruction's own. -/

/-- SC.W stores, or leaves the access out; LLbit is no part of LLBCTL's storage. -/
theorem guardsSystem_scW (rd rj : Reg) (si14 : BitVec 14) (s : State) : GuardsSystem s (execScW rd rj si14 s) := by
  refine guardsSystem_finish fun p _ => ?_
  split
  case isTrue =>
    refine guardsSystem_finish fun u hu => ?_
    obtain ⟨_, _, hstore⟩ := bind_eq_ok.mp hu
    obtain ⟨hcsr, htlb⟩ := storeAt_keeps_system hstore
    exact guardsSystem_next hcsr htlb
  case isFalse => exact guardsSystem_next rfl rfl

/-- A CACOP of the Hit class is not privileged; it changes at most the older words (R486, R487). -/
theorem guardsSystem_cacop {s : State} (hplv : plv s ≠ 0) (code : BitVec 5) (rj : Reg) (si12 : BitVec 12) :
    GuardsSystem s (exec (.cacop code rj si12) s) := by
  cases hhit : hitClass code with
  | false =>
    rw [exec_cacop_privileged hhit]
    exact guardsSystem_privileged hplv _
  | true =>
    cases hnamed : namedCode code with
    | false =>
      rw [exec_cacop_unnamed hnamed (.inl hhit)]
      exact guardsSystem_refused s _
    | true =>
      rw [exec_cacop_hit hnamed hhit]
      refine guardsSystem_finish fun t _ => ?_
      split <;> exact guardsSystem_next rfl rfl

/-- INVTLB takes INE or IPE. -/
theorem guardsSystem_invtlb {s : State} (hplv : plv s ≠ 0) (op : BitVec 5) (rj rk : Reg) :
    GuardsSystem s (exec (.invtlb op rj rk) s) := by
  by_cases hop : 6 < op.toNat
  · rw [exec_invtlb_undefined hop]
    exact guardsSystem_trap .INE s
  · rw [exec_invtlb (by omega)]
    exact guardsSystem_privileged hplv _

/-! The instructions. -/

/-- Every instruction away from PLV0, by the shape of its meaning. -/
theorem guardsSystem_exec {s : State} (hplv : plv s ≠ 0) (i : Instr) : GuardsSystem s (exec i s) := by
  cases i
  case rdcntid | rdcntvlW | rdcntvhW | addW | subW | slt | sltu | nor | and | or | xor | sllW | srlW | sraW | mulW
      | mulhW | mulhWu | divW | modW | divWu | modWu | slliW | srliW | sraiW | slti | sltui | addiW | andi | ori
      | xori | lu12iW | pcaddu12i | b | bl | jirl | preld | dbar | ibar =>
    exact guardsSystem_next rfl rfl
  case beq | bne | blt | bge | bltu | bgeu =>
    exact guardsSystem_branchIf _ _ s
  case brk | syscall =>
    exact guardsSystem_trap _ s
  case ldB | ldH | ldW | ldBu | ldHu =>
    exact guardsSystem_loadInto _ _ _ _ s
  case stB | stH | stW =>
    exact guardsSystem_storeThen _ _ _ s
  case llW =>
    exact guardsSystem_finish fun _ _ => guardsSystem_next rfl rfl
  case scW rd rj si14 => exact guardsSystem_scW rd rj si14 s
  case faddS | fsubS | fmulS | fdivS | fmaxS | fminS | fmaxaS | fminaS | fsqrtS | frecipS | frsqrtS | fcvtSD
      | ftintrmWS | ftintrmWD | ftintrpWS | ftintrpWD | ftintrzWS | ftintrzWD | ftintrneWS | ftintrneWD | ftintWS
      | ftintWD | ffintSW | fmaddS | fmsubS | fnmaddS | fnmsubS =>
    exact guardsSystem_floating (guardsSystem_commitS _ _ s)
  case faddD | fsubD | fmulD | fdivD | fmaxD | fminD | fmaxaD | fminaD | fsqrtD | frecipD | frsqrtD | fcvtDS | ffintDW
      | fmaddD | fmsubD | fnmaddD | fnmsubD =>
    exact guardsSystem_floating (guardsSystem_commitD _ _ s)
  case fcmpCafS | fcmpSafS | fcmpCltS | fcmpSltS | fcmpCeqS | fcmpSeqS | fcmpCleS | fcmpSleS | fcmpCunS | fcmpSunS
      | fcmpCultS | fcmpSultS | fcmpCueqS | fcmpSueqS | fcmpCuleS | fcmpSuleS | fcmpCneS | fcmpSneS | fcmpCorS
      | fcmpSorS | fcmpCuneS | fcmpSuneS | fcmpCafD | fcmpSafD | fcmpCltD | fcmpSltD | fcmpCeqD | fcmpSeqD | fcmpCleD
      | fcmpSleD | fcmpCunD | fcmpSunD | fcmpCultD | fcmpSultD | fcmpCueqD | fcmpSueqD | fcmpCuleD | fcmpSuleD
      | fcmpCneD | fcmpSneD | fcmpCorD | fcmpSorD | fcmpCuneD | fcmpSuneD =>
    exact guardsSystem_floating (guardsSystem_commitFlag _ _ _ _ s)
  case fcopysignS | fabsS | fnegS | fclassS | fmovS | fcopysignD | fabsD | fnegD | fclassD | fmovD | fsel | movgr2frW
      | movgr2frhW | movfr2grS | movfrh2grS | movgr2fcsr | movfcsr2gr | movfr2cf | movcf2fr | movgr2cf | movcf2gr =>
    exact guardsSystem_floating (guardsSystem_next rfl rfl)
  case bceqz | bcnez =>
    exact guardsSystem_floating (guardsSystem_branchIf _ _ s)
  case fldS | fldD =>
    exact guardsSystem_floating (guardsSystem_loadThen _ _ s (fun _ _ => rfl) fun _ _ => rfl)
  case fstS | fstD =>
    exact guardsSystem_floating (guardsSystem_storeThen _ _ _ s)
  case csrrd | csrwr | csrxchg | tlbsrch | tlbrd | tlbwr | tlbfill | ertn | idle =>
    exact guardsSystem_privileged hplv _
  case cacop code rj si12 => exact guardsSystem_cacop hplv code rj si12
  case invtlb op rj rk => exact guardsSystem_invtlb hplv op rj rk

/-- Cause written is Cause of the value written, over the rest of what was there. -/
theorem setBits_cause_eq (r v : Word) :
    setBits r 0x1F000000 v = (r &&& 0xE0FFFFFF) ||| (setBits r 0x1F000000 v &&& 0x1F000000) := by
  have hrest := setBits_and_of_disjoint (mask := 0x1F000000) (keep := 0xE0FFFFFF) (by decide) r v
  rw [← hrest, ← BitVec.and_or_distrib_left]
  exact BitVec.and_allOnes.symm

/-- Settles O32: `guardsSystem_exec`, the fcsr0 of FPE's entry written by its Cause. -/
theorem userLevelCannotTouchSystem : Obligations.UserLevelCannotTouchSystem := by
  intro i s t hplv hexec
  cases guardsSystem_exec hplv i t hexec with
  | kept hcsr htlb => exact .inl ⟨hcsr, htlb⟩
  | entered x va => exact .inr (.inl ⟨x, va, rfl⟩)
  | trapped e =>
    refine .inr (.inr ?_)
    rw [enter_fcsr0, setFpCause_fcsr0, ← setBits_cause_eq]
    rfl

end Sys2Proof.Machine
